-- ==== Sys2Proof/Word.lean ====
section
/-! DEFINITION. The word types of the block: the bytes of the host port, the two encoded words and the indices. -/

namespace Sys2Proof

/-- One byte of the host port or of the frame buffer (20_memory.md R70). -/
abbrev Byte := BitVec 8

/-- Format H: the 13-bit host transaction word, we above addr above data (30_encoding.md R90). -/
abbrev HostWord := BitVec 13

/-- Format F: the 6-bit FSM selector, st above warm above tail above txbit (30_encoding.md R101). -/
abbrev Selector := BitVec 6

/-- An address of the host register space (20_memory.md R70). -/
abbrev Addr := BitVec 4

/-- The index of a frame byte or of a bit slot, 3 bits (10_state.md R41, R42). -/
abbrev Index := BitVec 3

end Sys2Proof
end

