-- ==== Sys2Proof/Syntax.lean ====
section
/-! DEFINITION. The instructions: one constructor per row of spec/opcode_table.json. -/

namespace Sys2Proof

/-- One constructor per row of the opcode table. The bits a row ignores (30_encoding.md R94, R102) are operands that
no meaning reads, so no bit of an encoding is lost (log 11). -/
inductive Instr where
  /-- BEGIN, data[7:1] ignored (R121). -/
  | begin (ignored : BitVec 7)
  /-- LOOP, data[7:2] ignored (R122). -/
  | loop (ignored : BitVec 6)
  /-- CTRL_NOP, data[7:2] ignored (R123). -/
  | ctrlNop (ignored : BitVec 6)
  /-- RD_CTRL, data don't-care (R124). -/
  | rdCtrl (data : Byte)
  /-- RD_STATUS, data don't-care (R125). -/
  | rdStatus (data : Byte)
  /-- WR_STATUS, data ignored (R131). -/
  | wrStatus (data : Byte)
  /-- RD_CONFIG, data don't-care (R126). -/
  | rdConfig (data : Byte)
  /-- WR_CONFIG, data[7:2] ignored and data[1:0] the new REPEATS_M1 (R127). -/
  | wrConfig (ignored : BitVec 6) (repeats : BitVec 2)
  /-- RD_RSVD at address 0x3 (R132). -/
  | rdRsvd3 (data : Byte)
  /-- RD_RSVD at addresses 0x4 to 0x7, `a` being addr[1:0] (R132). -/
  | rdRsvd (a : BitVec 2) (data : Byte)
  /-- WR_RSVD at address 0x3 (R132). -/
  | wrRsvd3 (data : Byte)
  /-- WR_RSVD at addresses 0x4 to 0x7 (R132). -/
  | wrRsvd (a : BitVec 2) (data : Byte)
  /-- RD_FRAME of byte n (R129). -/
  | rdFrame (n : Index) (data : Byte)
  /-- WR_FRAME of byte n with the byte v (R128). -/
  | wrFrame (n : Index) (v : Byte)
  /-- HOLD_UNCONFIGURED, selector bits 2:0 don't-care (R195). -/
  | holdUnconfigured (x : BitVec 3)
  /-- HOLD_IDLE (R196). -/
  | holdIdle (x : BitVec 3)
  /-- WAIT_FOR_START_BIT, the cold wait, tail and txbit don't-care (R160). -/
  | waitForStartBit (x : BitVec 2)
  /-- WAIT_NEXT_START, the warm wait (R161). -/
  | waitNextStart (x : BitVec 2)
  /-- WAIT_START_BIT_COMPLETE (R163). -/
  | waitStartBitComplete (x : BitVec 3)
  /-- TRANSMIT_ZERO, warm and tail don't-care (R186). -/
  | transmitZero (x : BitVec 2)
  /-- TRANSMIT_ONE (R185). -/
  | transmitOne (x : BitVec 2)
  /-- RECEIVE_BIT, warm and txbit don't-care (R188). -/
  | receiveBit (warm txbit : BitVec 1)
  /-- BYTE_COMPLETE, warm and txbit don't-care (R190). -/
  | byteComplete (warm txbit : BitVec 1)
  /-- HOLD_SUCCESS (R197). -/
  | holdSuccess (x : BitVec 3)
  /-- HOLD_DESYNC (R198). -/
  | holdDesync (x : BitVec 3)
  /-- TIMESTAMP_COUNT, background (R150). -/
  | timestampCount
  /-- INPUT_SYNC, background (R151). -/
  | inputSync
  /-- DEBOUNCE, background (R152). -/
  | debounce
  /-- EDGE_QUALIFY, background (R154). -/
  | edgeQualify
  /-- DELAY_US_WITH_START_TIME: the deadline wait on the target offset `waitTime`, in cycles (R181). -/
  | delayUsWithStartTime (waitTime : Nat)
  /-- SYNC_TRANSMISSION, composite (R165). -/
  | syncTransmission
  /-- TRANSMIT_BYTE, composite (R187). -/
  | transmitByte
  /-- RECEIVE_BYTE, composite (R191). -/
  | receiveByte
  /-- REPEAT_CONTROL, the repeat decision (R193). -/
  | repeatControl
  /-- LANC_TRANSMIT_RECEIVE, the whole call (R194). -/
  | lancTransmitReceive
  deriving DecidableEq, Repr

end Sys2Proof
end

