-- ==== Sys2Proof/Decode.lean ====
section
/-! DEFINITION. The decoders of the two encoded vocabularies (30_encoding.md R90 to R95, R100 to R102), and the
encoder written from the same tables. -/

namespace Sys2Proof

/-- Why a list of bytes is no encoded word. -/
inductive DecodeError where
  /-- Neither one byte (a selector) nor two bytes (a host word). -/
  | badLength
  /-- One byte, with a bit above bit 5 set: a selector has 6 bits (R101). -/
  | selectorTooWide
  /-- Two bytes, with a bit above bit 12 set: a host word has 13 bits (R90). -/
  | hostWordTooWide
  deriving DecidableEq, Repr

/-- The host rows with `we = 1` (R93). BEGIN is tested before LOOP, so `data[1:0] = 11` is BEGIN. -/
def decodeWrite (addr : Addr) (data : Byte) : Instr :=
  if addr = 0 then
    if data.getLsbD 0 then .begin (data.extractLsb' 1 7)
    else if data.getLsbD 1 then .loop (data.extractLsb' 2 6)
    else .ctrlNop (data.extractLsb' 2 6)
  else if addr = 1 then .wrStatus data
  else if addr = 2 then .wrConfig (data.extractLsb' 2 6) (data.extractLsb' 0 2)
  else if addr = 3 then .wrRsvd3 data
  else if addr.getLsbD 3 then .wrFrame (addr.extractLsb' 0 3) data
  else .wrRsvd (addr.extractLsb' 0 2) data

/-- The host rows with `we = 0` (R93). -/
def decodeRead (addr : Addr) (data : Byte) : Instr :=
  if addr = 0 then .rdCtrl data
  else if addr = 1 then .rdStatus data
  else if addr = 2 then .rdConfig data
  else if addr = 3 then .rdRsvd3 data
  else if addr.getLsbD 3 then .rdFrame (addr.extractLsb' 0 3) data
  else .rdRsvd (addr.extractLsb' 0 2) data

/-- The host opcode map (R90, R93): every word selects exactly one row. -/
def decodeHost (w : HostWord) : Instr :=
  if w.getLsbD 12 then decodeWrite (w.extractLsb' 8 4) (w.extractLsb' 0 8)
  else decodeRead (w.extractLsb' 8 4) (w.extractLsb' 0 8)

/-- The FSM opcode map (R101, R102): every selector selects exactly one row. -/
def decodeSelector (w : Selector) : Instr :=
  let st := w.extractLsb' 3 3
  if st = 0 then .holdUnconfigured (w.extractLsb' 0 3)
  else if st = 1 then .holdIdle (w.extractLsb' 0 3)
  else if st = 2 then
    if w.getLsbD 2 then .waitNextStart (w.extractLsb' 0 2) else .waitForStartBit (w.extractLsb' 0 2)
  else if st = 3 then .waitStartBitComplete (w.extractLsb' 0 3)
  else if st = 4 then
    if w.getLsbD 0 then .transmitOne (w.extractLsb' 1 2) else .transmitZero (w.extractLsb' 1 2)
  else if st = 5 then
    if w.getLsbD 1 then .byteComplete (w.extractLsb' 2 1) (w.extractLsb' 0 1)
    else .receiveBit (w.extractLsb' 2 1) (w.extractLsb' 0 1)
  else if st = 6 then .holdSuccess (w.extractLsb' 0 3)
  else .holdDesync (w.extractLsb' 0 3)

/-- The decoder on any bytes (log 10): one byte is a selector, two bytes are a host word with its low byte first.
Anything else is rejected by name. -/
def decode : List Byte → Except DecodeError Instr
  | [b] => if b.toNat < 64 then .ok (decodeSelector (b.extractLsb' 0 6)) else .error .selectorTooWide
  | [lo, hi] =>
    if hi.toNat < 32 then .ok (decodeHost (hi.extractLsb' 0 5 ++ lo)) else .error .hostWordTooWide
  | _ => .error .badLength

/-- The 13 bits of a format H row (R90, R93). None for a row of another format. -/
def encodeHost : Instr → Option HostWord
  | .begin x => some (1#1 ++ 0x0#4 ++ x ++ 1#1)
  | .loop x => some (1#1 ++ 0x0#4 ++ x ++ 0b10#2)
  | .ctrlNop x => some (1#1 ++ 0x0#4 ++ x ++ 0b00#2)
  | .rdCtrl d => some (0#1 ++ 0x0#4 ++ d)
  | .rdStatus d => some (0#1 ++ 0x1#4 ++ d)
  | .wrStatus d => some (1#1 ++ 0x1#4 ++ d)
  | .rdConfig d => some (0#1 ++ 0x2#4 ++ d)
  | .wrConfig x r => some (1#1 ++ 0x2#4 ++ x ++ r)
  | .rdRsvd3 d => some (0#1 ++ 0x3#4 ++ d)
  | .rdRsvd a d => some (0#1 ++ 0b01#2 ++ a ++ d)
  | .wrRsvd3 d => some (1#1 ++ 0x3#4 ++ d)
  | .wrRsvd a d => some (1#1 ++ 0b01#2 ++ a ++ d)
  | .rdFrame n d => some (0#1 ++ 1#1 ++ n ++ d)
  | .wrFrame n v => some (1#1 ++ 1#1 ++ n ++ v)
  | .holdUnconfigured _ | .holdIdle _ | .waitForStartBit _ | .waitNextStart _ | .waitStartBitComplete _
  | .transmitZero _ | .transmitOne _ | .receiveBit _ _ | .byteComplete _ _ | .holdSuccess _ | .holdDesync _
  | .timestampCount | .inputSync | .debounce | .edgeQualify | .delayUsWithStartTime _
  | .syncTransmission | .transmitByte | .receiveByte | .repeatControl | .lancTransmitReceive => none

/-- The 6 bits of a format F row (R101, R102). None for a row of another format. -/
def encodeSelector : Instr → Option Selector
  | .holdUnconfigured x => some (0b000#3 ++ x)
  | .holdIdle x => some (0b001#3 ++ x)
  | .waitForStartBit x => some (0b010#3 ++ 0#1 ++ x)
  | .waitNextStart x => some (0b010#3 ++ 1#1 ++ x)
  | .waitStartBitComplete x => some (0b011#3 ++ x)
  | .transmitZero x => some (0b100#3 ++ x ++ 0#1)
  | .transmitOne x => some (0b100#3 ++ x ++ 1#1)
  | .receiveBit u v => some (0b101#3 ++ u ++ 0#1 ++ v)
  | .byteComplete u v => some (0b101#3 ++ u ++ 1#1 ++ v)
  | .holdSuccess x => some (0b110#3 ++ x)
  | .holdDesync x => some (0b111#3 ++ x)
  | .begin _ | .loop _ | .ctrlNop _ | .rdCtrl _ | .rdStatus _ | .wrStatus _ | .rdConfig _ | .wrConfig _ _
  | .rdRsvd3 _ | .rdRsvd _ _ | .wrRsvd3 _ | .wrRsvd _ _ | .rdFrame _ _ | .wrFrame _ _
  | .timestampCount | .inputSync | .debounce | .edgeQualify | .delayUsWithStartTime _
  | .syncTransmission | .transmitByte | .receiveByte | .repeatControl | .lancTransmitReceive => none

/-- A host word as bytes, the low byte first (log 10). -/
def hostBytes (w : HostWord) : List Byte := [w.extractLsb' 0 8, 0#3 ++ w.extractLsb' 8 5]

/-- A selector as one byte (log 10). -/
def selectorBytes (w : Selector) : List Byte := [0#2 ++ w]

/-- The encoder: the bytes of an instruction that has an encoding. Background and composite rows have none
(opcode_table.json; R103). -/
def encode (i : Instr) : Option (List Byte) :=
  match encodeHost i with
  | some w => some (hostBytes w)
  | none => (encodeSelector i).map selectorBytes

/-- What the decoder reads from a word numbered as spec/opcode_table.json numbers it. A row of at most 8 bits is a
selector, a row of 9 to 16 bits a host word. -/
def decodeTableWord (nbits w : Nat) : Option Instr :=
  if nbits ≤ 8 then
    if w < 256 then (decode [BitVec.ofNat 8 w]).toOption else none
  else if nbits ≤ 16 then
    if w < 65536 then (decode [BitVec.ofNat 8 w, BitVec.ofNat 8 (w / 256)]).toOption else none
  else none

end Sys2Proof
end

