-- ==== Sys2Proof/Config.lean ====
section
/-! DEFINITION. What an implementation fixes (the elaboration parameters of 00_scope.md R8), the input ports, and
the one free value. -/

namespace Sys2Proof

/-- The elaboration parameters (00_scope.md R8). Every duration is a number of clk cycles. The three polarities are
bits, so the last constraint of R9 holds by type. -/
structure Config where
  /-- TW: width of now and of t_ref, in bits. -/
  tw : Nat
  /-- DB_LEN: cycles a changed level must persist before the debounced level follows. -/
  dbLen : Nat
  /-- GAP_MIN: idle cycles that must come before an asserting edge for it to be a start edge. -/
  gapMin : Nat
  /-- T_START: duration of the start window. -/
  tStart : Nat
  /-- T_BIT: duration of one bit slot. -/
  tBit : Nat
  /-- SAMPLE_AT: offset of the sample point in a bit slot. -/
  sampleAt : Nat
  /-- BYTE_OFFSET[0..7]: start of bit slot 0 of each byte, from the origin. -/
  byteOffset : Vector Nat 8
  /-- TIMEOUT_COLD: bound of the wait for the first start edge of a LOOP. -/
  timeoutCold : Nat
  /-- TIMEOUT_WARM: bound of the wait of every later repeat. -/
  timeoutWarm : Nat
  /-- ONE_ASSERTS: true if a data bit one asserts the line. -/
  oneAsserts : Bool
  /-- OUT_IDLE: level of lanc_out when the line is not asserted. -/
  outIdle : Bool
  /-- IN_IDLE: level of lanc_in when the line is not asserted. -/
  inIdle : Bool
  deriving DecidableEq, Repr

/-- The input ports in one cycle (10_state.md R30): reset, the line level and the host transaction. -/
structure Input where
  rst : Bool
  lancIn : Bool
  hSel : Bool
  hWe : Bool
  hAddr : Addr
  hWdata : Byte
  deriving DecidableEq, Repr, Inhabited

/-- THE FREE VALUE of the model (log 2): the inputs of cycle number n where no input has been decided. The host's
transaction, the line level and rst are inputs under no law (00_scope.md R7, 42_transceiver.md R200), so nothing
constrains this constant and it has no body. -/
opaque Config.freeInput : Nat → Input

end Sys2Proof
end

