-- ==== Sys2Proof/Machine/Params.lean ====
section
/-! DEFINITION. What follows from the parameters alone: the constraints R9, R10 and R11, the derived constants R12, the
test set R13, modular time R16, the slot schedule R183, the line encoding R106 and R107, and the
host word R90 of a cycle's inputs. -/

namespace Sys2Proof

/-- `BYTE_OFFSET[i]` (00_scope.md R8). -/
def Config.offset (p : Config) (i : Index) : Nat := p.byteOffset[i.toNat]'i.isLt

/-- The modulus `M = 2^TW` of all timestamp arithmetic (00_scope.md R12). -/
def Config.modulus (p : Config) : Nat := 2 ^ p.tw

/-- The structural constraints (00_scope.md R9): a parameter set that breaks one has no behaviour. -/
abbrev Config.Structural (p : Config) : Prop :=
  (2 ≤ p.tw ∧ 1 ≤ p.dbLen ∧ 1 ≤ p.tStart ∧ 2 ≤ p.tBit)
  ∧ (∀ i : Index, p.offset i + 8 * p.tBit < p.modulus)
  ∧ (∀ i : Index, p.offset i + 7 * p.tBit + p.sampleAt < p.modulus)
  ∧ p.tStart < p.modulus
  ∧ (1 ≤ p.timeoutCold ∧ p.timeoutCold < p.modulus)
  ∧ (1 ≤ p.timeoutWarm ∧ p.timeoutWarm < p.modulus)

/-- The check of R9 that the model makes before it gives a parameter set a behaviour. -/
def Config.structural (p : Config) : Bool := decide p.Structural

/-- The schedule constraints (00_scope.md R10): a set that breaks one is admitted and raises TimingViolation at run
time. -/
abbrev Config.Scheduled (p : Config) : Prop :=
  (1 ≤ p.sampleAt ∧ p.sampleAt ≤ p.tBit - 1)
  ∧ 1 ≤ p.offset 0
  ∧ ∀ i : Index, i ≠ 0 → p.offset (i - 1) + 8 * p.tBit + 1 ≤ p.offset i

/-- `INPUT_LAT = 2 + DB_LEN` (00_scope.md R12, 41_synchronizer.md R156). -/
def Config.inputLat (p : Config) : Nat := 2 + p.dbLen

/-- The loopback constraints that R11 adds to R10 (00_scope.md R11). -/
abbrev Config.LoopbackReady (p : Config) : Prop :=
  p.outIdle = p.inIdle ∧ 3 + p.dbLen ≤ p.sampleAt

/-- `FRAME_SPAN`: elapsed time from the origin at which the last slot of a frame ends (00_scope.md R12). -/
def Config.frameSpan (p : Config) : Nat := p.offset 7 + 8 * p.tBit

/-- `IDLE_BYTE`: the byte whose eight bits all leave the line non-asserted (00_scope.md R12, 30_encoding.md R108). -/
def Config.idleByte (p : Config) : Byte := if p.oneAsserts then 0x00 else 0xFF

/-- The test parameter set `P_TEST` (00_scope.md R13). -/
def Config.pTest : Config where
  tw := 16
  dbLen := 1
  gapMin := 4
  tStart := 4
  tBit := 8
  sampleAt := 5
  byteOffset := #v[1, 73, 145, 217, 289, 361, 433, 505]
  timeoutCold := 800
  timeoutWarm := 300
  oneAsserts := false
  outIdle := true
  inIdle := true

/-- `off(i, j)`, the drive target of bit j of byte i (42_transceiver.md R183, 30_encoding.md R105). -/
def Config.driveTarget (p : Config) (i j : Index) : Nat := p.offset i + j.toNat * p.tBit

/-- The sample target of bit j of byte i (42_transceiver.md R183). -/
def Config.sampleTarget (p : Config) (i j : Index) : Nat := p.driveTarget i j + p.sampleAt

/-- The end target of byte i (42_transceiver.md R183). -/
def Config.endTarget (p : Config) (i : Index) : Nat := p.offset i + 8 * p.tBit

/-- `asserts(b)`: data bit b asserts the line (30_encoding.md R106). -/
def Config.asserts (p : Config) (b : Bool) : Bool := b == p.oneAsserts

/-- `pinlevel(b)`, the lanc_out level that encodes data bit b (30_encoding.md R106). -/
def Config.pinlevel (p : Config) (b : Bool) : Bool := if p.asserts b then !p.outIdle else p.outIdle

/-- `bitof(a)`, the data bit that the asserted-ness a of the input decodes to (30_encoding.md R107). -/
def Config.bitof (p : Config) (a : Bool) : Bool := if a then p.oneAsserts else !p.oneAsserts

/-- `a -M b`, the difference modulo `2^TW` (00_scope.md R16). -/
def Config.subM (p : Config) (a b : Nat) : Nat := (a + (p.modulus - b % p.modulus)) % p.modulus

/-- `a +M b`, the sum modulo `2^TW` (00_scope.md R16). -/
def Config.addM (p : Config) (a b : Nat) : Nat := (a + b) % p.modulus

/-- The host transaction word of a cycle's inputs (30_encoding.md R90). -/
def Input.hostWord (i : Input) : HostWord := BitVec.ofBool i.hWe ++ i.hAddr ++ i.hWdata

/-- A host transaction word presented with h_sel = 1 (30_encoding.md R90), with the line at a given level. -/
def Input.ofHostWord (w : HostWord) (level : Bool) : Input where
  rst := false
  lancIn := level
  hSel := true
  hWe := w.getLsbD 12
  hAddr := w.extractLsb' 8 4
  hWdata := w.extractLsb' 0 8

/-- A cycle with no transaction and no reset (40_host_commands.md R133), with the line at a given level. -/
def Input.quiet (level : Bool) : Input where
  rst := false
  lancIn := level
  hSel := false
  hWe := false
  hAddr := 0
  hWdata := 0

end Sys2Proof
end

