-- ==== Sys2Proof/Machine/State.lean ====
section
/-! DEFINITION. The state of the block as plain data (10_state.md R37 to R52), the ways a step can stop, and the state
after reset (R60). -/

namespace Sys2Proof.Machine

/-- The FSM states, in the order of their codes 0 to 7 (30_encoding.md R100). -/
inductive FsmState where
  | unconfigured | idle | awaitStart | startConfirmed | transmitByte | receiveByte | success | desyncFailure
  deriving DecidableEq, Repr

/-- The ghost failure causes, in the order of their codes 0 to 3 (60_exceptions.md R231). -/
inductive Cause where
  | none | linkTimeout | timingViolation | notReady
  deriving DecidableEq, Repr

/-- Why a step stops with a fault. The block has no trap and no illegal word (40_host_commands.md R134, 30_encoding.md
R94), so no step ever does. -/
inductive Fault where
  /-- Raised by `step` if the bytes it fetched decode to nothing; safe. The two decoders are total on the words the
  ports and the state registers can hold, so no step raises it (log 12). -/
  | undecodable (e : DecodeError)
  deriving DecidableEq, Repr

/-- Why the model refuses to give a behaviour. -/
inductive Refusal where
  /-- Raised by an arm of `exec` whose instruction has no meaning yet; safe. No arm raises it. -/
  | notModelled (mnemonic : String)
  /-- Raised by every meaning and by `step` when the parameter set breaks a structural constraint; safe. The spec
  itself refuses such a set: it has no behaviour (00_scope.md R9, 92_eei_decisions.md D35,
  93_implementation_defined.md I22). -/
  | illegalParameters
  deriving DecidableEq, Repr

/-- The state of the block, with the parameters it was elaborated with and the inputs of the coming cycles. Times and
counters are numbers: `Safety.Inv` states the width of each (log 4). -/
structure State where
  /-- The elaboration parameters (00_scope.md R8). No step changes them (log 1). -/
  cfg : Config
  /-- st (R37). -/
  st : FsmState
  /-- warm: the wait in AWAIT_START is the warm one (R38). -/
  warm : Bool
  /-- tail: bit 7 has been sampled and the end of its slot is awaited (R39). -/
  tail : Bool
  /-- rep: index of the current repeat (R40). -/
  rep : BitVec 2
  /-- byte_idx: index of the frame byte in progress (R41). -/
  byteIdx : Index
  /-- bit_idx: index of the bit slot in progress (R42). -/
  bitIdx : Index
  /-- rx_shift: the byte-assembly register (R43). -/
  rxShift : Byte
  /-- t_ref: the timing reference, TW bits (R44). -/
  tRef : Nat
  /-- now: the timestamp counter, TW bits (R46). -/
  now : Nat
  /-- sync1, sync2: the input synchronizer (R47). -/
  sync1 : Bool
  sync2 : Bool
  /-- in_db: the debounced input level (R48). -/
  inDb : Bool
  /-- db_cnt: cycles in which sync2 differed from in_db (R48). -/
  dbCnt : Nat
  /-- prev_asserted: asserted in the previous cycle (R49). -/
  prevAsserted : Bool
  /-- idle_run: consecutive previous non-asserted cycles, saturating at GAP_MIN (R49). -/
  idleRun : Nat
  /-- out_q: the registered level of lanc_out (R50). -/
  outQ : Bool
  /-- oe_q: the registered output enable (R50). -/
  oeQ : Bool
  /-- done, ok, ign: the result flags (R51). -/
  done : Bool
  ok : Bool
  ign : Bool
  /-- cause: the ghost failure cause (R52). -/
  cause : Cause
  /-- frame[0..7]: the frame buffer (R35). -/
  frame : Vector Byte 8
  /-- repeats_m1: CONFIG.REPEATS_M1 (R34). -/
  repeatsM1 : BitVec 2
  /-- The model's own: what the output port h_rdata showed in the cycle last taken (log 3). -/
  rdata : Byte
  /-- The model's own: the inputs already decided for the coming cycles, this cycle's first (log 2). -/
  pending : List Input
  /-- The model's own: the number of this cycle, the index of the free input (log 2). A reset before the run is cycle 0. -/
  cycle : Nat
  deriving DecidableEq, Repr

/-- The reset state of a block elaborated with the parameters `p` (R60). -/
def State.resetWith (p : Config) : State where
  cfg := p
  st := .unconfigured
  warm := false
  tail := false
  rep := 0
  byteIdx := 0
  bitIdx := 0
  rxShift := 0x00
  tRef := 0
  now := 0
  sync1 := p.inIdle
  sync2 := p.inIdle
  inDb := p.inIdle
  dbCnt := 0
  prevAsserted := false
  idleRun := 0
  outQ := p.outIdle
  oeQ := false
  done := false
  ok := false
  ign := false
  cause := .none
  frame := Vector.replicate 8 p.idleByte
  repeatsM1 := 3
  rdata := 0
  pending := []
  cycle := 1

/-- The machine right after reset (R60), elaborated with the test set `P_TEST` (DESIGN CHOICE, log 1), with no input
decided (log 2). -/
def State.reset : State := State.resetWith Config.pTest

end Sys2Proof.Machine
end

