-- ==== Sys2Proof/Machine/Operands.lean ====
section
/-! DEFINITION. What the rules read: the current input, elapsed time, bits of a byte, the frame buffer, and the state of
the line. -/

namespace Sys2Proof.Machine

/-- The inputs of the current cycle: the decided ones, else the free value (log 2). -/
def State.input (s : State) : Input :=
  match s.pending with
  | i :: _ => i
  | [] => Config.freeInput s.cycle

/-- `e`, the elapsed time since the timing reference (10_state.md R55). -/
def State.elapsed (s : State) : Nat := s.cfg.subM s.now s.tRef

/-- Bit j of a byte (00_scope.md R15). -/
def bitOf (b : Byte) (j : Index) : Bool := b.getLsbD j.toNat

/-- The byte with bit j replaced by v (42_transceiver.md R188). -/
def setBit (b : Byte) (j : Index) (v : Bool) : Byte :=
  let m := BitVec.twoPow 8 j.toNat
  if v then b ||| m else b &&& ~~~m

/-- `frame[i]` (10_state.md R35). -/
def State.frameByte (s : State) (i : Index) : Byte := s.frame[i.toNat]'i.isLt

/-- `frame[i] <- b` (10_state.md R35). -/
def State.setFrame (s : State) (i : Index) (b : Byte) : State :=
  { s with frame := s.frame.set i.toNat b i.isLt }

/-- `txbit`, the data bit of the current slot (30_encoding.md R101). -/
def State.txbit (s : State) : Bool := bitOf (s.frameByte s.byteIdx) s.bitIdx

/-- `asserted`: the debounced level of the input line is not the idle level (10_state.md R54). -/
def State.asserted (s : State) : Bool := s.inDb != s.cfg.inIdle

/-- `start_edge` (41_synchronizer.md R154). DEDUCED, the model's choice (log 17): it is R154 in every cycle, so a line
asserted from reset on makes a start edge in cycle 1 + INPUT_LAT when GAP_MIN <= INPUT_LAT, which
70_reset_and_hazards.md R263 denies for GAP_MIN >= 1. -/
def State.startEdge (s : State) : Bool :=
  s.asserted && !s.prevAsserted && decide (s.cfg.gapMin ≤ s.idleRun)

end Sys2Proof.Machine
end

