-- ==== Sys2Proof/Machine/Flags.lean ====
section
/-! DEFINITION. The state codes, the flags and the views of the state that the output ports and the host registers
show. -/

namespace Sys2Proof.Machine

/-- The 3-bit code of an FSM state (30_encoding.md R100). -/
def FsmState.code : FsmState → BitVec 3
  | .unconfigured => 0
  | .idle => 1
  | .awaitStart => 2
  | .startConfirmed => 3
  | .transmitByte => 4
  | .receiveByte => 5
  | .success => 6
  | .desyncFailure => 7

/-- The FSM state with a given code. No code is reserved (30_encoding.md R100). -/
def FsmState.ofCode (c : BitVec 3) : FsmState :=
  if c = 0 then .unconfigured
  else if c = 1 then .idle
  else if c = 2 then .awaitStart
  else if c = 3 then .startConfirmed
  else if c = 4 then .transmitByte
  else if c = 5 then .receiveByte
  else if c = 6 then .success
  else .desyncFailure

/-- The 2-bit code of a failure cause (60_exceptions.md R231). -/
def Cause.code : Cause → BitVec 2
  | .none => 0
  | .linkTimeout => 1
  | .timingViolation => 2
  | .notReady => 3

/-- The states in which a LOOP is in progress (10_state.md R53). -/
def FsmState.isBusy : FsmState → Bool
  | .awaitStart | .startConfirmed | .transmitByte | .receiveByte => true
  | .unconfigured | .idle | .success | .desyncFailure => false

/-- `busy`, the flag STATUS.BUSY and the port busy (10_state.md R53, R30). -/
def State.busy (s : State) : Bool := s.st.isBusy

/-- The port lanc_out (10_state.md R56). -/
def State.lancOut (s : State) : Bool := s.outQ

/-- The port lanc_oe (10_state.md R56). -/
def State.lancOe (s : State) : Bool := s.oeQ

/-- STATUS, `{0b0, ign, ok, done, busy, st[2:0]}` (10_state.md R33, 20_memory.md R72). -/
def State.status (s : State) : Byte :=
  0#1 ++ BitVec.ofBool s.ign ++ BitVec.ofBool s.ok ++ BitVec.ofBool s.done ++ BitVec.ofBool s.busy ++ s.st.code

/-- CONFIG, `{0b000000, repeats_m1}` (10_state.md R34, 20_memory.md R72). -/
def State.configByte (s : State) : Byte := 0#6 ++ s.repeatsM1

/-- What a host read of address a returns (20_memory.md R72). -/
def State.hostRead (s : State) (a : Addr) : Byte :=
  if a = 0x1 then s.status
  else if a = 0x2 then s.configByte
  else if a.getLsbD 3 then s.frameByte (a.extractLsb' 0 3)
  else 0x00

/-- The port h_rdata, a function of the current state and of h_addr in every cycle (10_state.md R30, 20_memory.md R72,
93_implementation_defined.md I14). -/
def State.hRdata (s : State) : Byte := s.hostRead s.input.hAddr

/-- The FSM selector `S = {st[2:0], warm, tail, txbit}` (30_encoding.md R101). -/
def State.selector (s : State) : Selector :=
  s.st.code ++ BitVec.ofBool s.warm ++ BitVec.ofBool s.tail ++ BitVec.ofBool s.txbit

end Sys2Proof.Machine
end

