-- ==== Sys2Proof/Machine/Ops.lean ====
section
/-! DEFINITION. The shared operations: the refusal of an illegal parameter set, raising and entering a failure, the
write gate, the deadline wait, the cycle boundary, reset, and fetching a word. -/

namespace Sys2Proof.Machine

/-- The outcome of one step of this machine. -/
abbrev Result := Host.Outcome State Fault Refusal

/-- A parameter set that breaks a structural constraint has no behaviour (00_scope.md R9, D35; log 16). -/
def elaborated (s t : State) : Result := if s.cfg.structural then .next t else .refused .illegalParameters

/-- Go on with `f` from a next state; a stop stays. -/
def andThen (r : Result) (f : State → Result) : Result :=
  match r with
  | .next s => f s
  | .fault e => .fault e
  | .refused e => .refused e

/-! ### Failures -/

/-- Failure entry `fail(c)` (60_exceptions.md R238): the block's only exception entry. -/
def fail (c : Cause) (s : State) : State :=
  { s with st := .desyncFailure, outQ := s.cfg.outIdle, done := true, ok := false, cause := c, tail := false }

/-- raise LinkTimeout (60_exceptions.md R235). -/
def raiseLinkTimeout (s : State) : State := fail .linkTimeout s

/-- raise TimingViolation (60_exceptions.md R236). -/
def raiseTimingViolation (s : State) : State := fail .timingViolation s

/-- raise NotReady (60_exceptions.md R237). -/
def raiseNotReady (s : State) : State := { s with done := true, ok := false, cause := .notReady }

/-! ### The write gate and the deadline wait -/

/-- A gated host write: while busy it sets IGN and does nothing else (40_host_commands.md R120, R130). -/
def gated (s t : State) : State := if s.busy then { s with ign := true } else t

/-- A deadline wait on the target offset d, with the action's result t (42_transceiver.md R181). -/
def deadline (s : State) (d : Nat) (t : State) : State :=
  if s.elapsed < d then s
  else if s.elapsed = d then t
  else raiseTimingViolation s

/-! ### The cycle -/

/-- The host's read value of this cycle is the value of h_rdata in it (20_memory.md R72; log 3). -/
def sampleRdata (s : State) : State := { s with rdata := s.hRdata }

/-- The end of a cycle: the inputs of the next one become current (00_scope.md R7; log 2). -/
def nextInput (s : State) : State := { s with pending := s.pending.tail, cycle := s.cycle + 1 }

/-- The next state of a cycle with rst = 1: the reset state in full, whatever the host or the FSM would do
(70_reset_and_hazards.md R260). A read in that cycle still returns the current state's value. -/
def resetCycle (s : State) : State :=
  { State.resetWith s.cfg with rdata := s.hRdata, pending := s.pending.tail, cycle := s.cycle + 1 }

/-! ### Fetching -/

/-- Decide the inputs of the current cycle. -/
def State.withInput (s : State) (i : Input) : State := { s with pending := i :: s.pending.tail }

/-- The level of lanc_in already decided for the current cycle, else the idle level (log 13). -/
def State.placedLevel (s : State) : Bool :=
  match s.pending with
  | i :: _ => i.lancIn
  | [] => s.cfg.inIdle

/-- The host presents the word w in the current cycle (log 13). -/
def State.placeHostWord (s : State) (w : HostWord) : State :=
  s.withInput (Input.ofHostWord w s.placedLevel)

/-- The state bits that make up the selector take the value w, and the current cycle has no transaction (log 13).
txbit is bit bit_idx of frame[byte_idx] (30_encoding.md R101). -/
def State.placeSelector (s : State) (w : Selector) : State :=
  ({ s with
      st := FsmState.ofCode (w.extractLsb' 3 3)
      warm := w.getLsbD 2
      tail := w.getLsbD 1 }.setFrame s.byteIdx (setBit (s.frameByte s.byteIdx) s.bitIdx (w.getLsbD 0))).withInput
    (Input.quiet s.placedLevel)

end Sys2Proof.Machine
end

