-- ==== Sys2Proof/Machine/Background.lean ====
section
/-! DEFINITION. The meanings of the background operations, which run in every cycle with rst = 0 (30_encoding.md R103;
41_synchronizer.md R150 to R154). -/

namespace Sys2Proof.Machine

/-- `now <- now +M 1` (R150). -/
def timestampEffect (s : State) : State := { s with now := s.cfg.addM s.now 1 }

/-- `sync1 <- lanc_in; sync2 <- sync1` (R151). -/
def inputSyncEffect (s : State) : State := { s with sync1 := s.input.lancIn, sync2 := s.sync1 }

/-- The debounce filter (R152). -/
def debounceEffect (s : State) : State :=
  if s.sync2 = s.inDb then { s with dbCnt := 0 }
  else if s.cfg.dbLen ≤ s.dbCnt + 1 then { s with inDb := s.sync2, dbCnt := 0 }
  else { s with dbCnt := s.dbCnt + 1 }

/-- The edge qualifier's registers (R154). -/
def edgeQualifyEffect (s : State) : State :=
  { s with
    prevAsserted := s.asserted
    idleRun := if s.asserted then 0 else min (s.idleRun + 1) s.cfg.gapMin }

/-- TIMESTAMP_COUNT (R150). -/
def execTimestampCount (s : State) : Result := elaborated s (timestampEffect s)

/-- INPUT_SYNC (R151). -/
def execInputSync (s : State) : Result := elaborated s (inputSyncEffect s)

/-- DEBOUNCE (R152). -/
def execDebounce (s : State) : Result := elaborated s (debounceEffect s)

/-- EDGE_QUALIFY (R154). -/
def execEdgeQualify (s : State) : Result := elaborated s (edgeQualifyEffect s)

end Sys2Proof.Machine
end

