-- ==== Sys2Proof/Machine/HostCommands.lean ====
section
/-! DEFINITION. The meanings of the host transactions, format H (40_host_commands.md R120 to R134). -/

namespace Sys2Proof.Machine

/-- The effect of BEGIN (R121). -/
def beginEffect (s : State) : State :=
  gated s
    { s with
      st := .idle
      oeQ := true
      outQ := s.cfg.outIdle
      done := false
      ok := false
      ign := false
      cause := .none
      warm := false
      tail := false }

/-- What an accepted LOOP writes (R122). -/
def loopAccepted (s : State) : State :=
  { s with
    st := .awaitStart
    warm := false
    tail := false
    rep := 0
    byteIdx := 0
    bitIdx := 0
    tRef := s.now
    done := false
    ok := false
    ign := false
    cause := .none }

/-- The effect of LOOP (R122): ignored while busy, accepted in IDLE and SUCCESS, else refused with NotReady. -/
def loopEffect (s : State) : State :=
  gated s (if s.st = .idle ∨ s.st = .success then loopAccepted s else raiseNotReady s)

/-- The effect of a CTRL write with neither command bit (R123). -/
def ctrlNopEffect (s : State) : State := gated s s

/-- The effect of a CONFIG write of the repeat count r (R127). -/
def configEffect (r : BitVec 2) (s : State) : State := gated s { s with repeatsM1 := r }

/-- The effect of a write of the byte v to FRAMEn (R128). -/
def frameEffect (n : Index) (v : Byte) (s : State) : State := gated s (s.setFrame n v)

/-- A read returns the byte v (20_memory.md R72): nothing but the observed value changes (R76; log 3). -/
def readEffect (v : Byte) (s : State) : State := { s with rdata := v }

/-- BEGIN (R121). -/
def execBegin (_ignored : BitVec 7) (s : State) : Result := elaborated s (beginEffect s)

/-- LOOP (R122). -/
def execLoop (_ignored : BitVec 6) (s : State) : Result := elaborated s (loopEffect s)

/-- CTRL_NOP (R123). -/
def execCtrlNop (_ignored : BitVec 6) (s : State) : Result := elaborated s (ctrlNopEffect s)

/-- RD_CTRL (R124): CTRL has no storage. -/
def execRdCtrl (_data : Byte) (s : State) : Result := elaborated s (readEffect 0x00 s)

/-- RD_STATUS (R125). -/
def execRdStatus (_data : Byte) (s : State) : Result := elaborated s (readEffect s.status s)

/-- WR_STATUS (R131): no effect, not even on IGN. -/
def execWrStatus (_data : Byte) (s : State) : Result := elaborated s s

/-- RD_CONFIG (R126). -/
def execRdConfig (_data : Byte) (s : State) : Result := elaborated s (readEffect s.configByte s)

/-- WR_CONFIG (R127). -/
def execWrConfig (_ignored : BitVec 6) (repeats : BitVec 2) (s : State) : Result :=
  elaborated s (configEffect repeats s)

/-- RD_RSVD at 0x3 (R132). -/
def execRdRsvd3 (_data : Byte) (s : State) : Result := elaborated s (readEffect 0x00 s)

/-- RD_RSVD at 0x4 to 0x7 (R132). -/
def execRdRsvd (_a : BitVec 2) (_data : Byte) (s : State) : Result := elaborated s (readEffect 0x00 s)

/-- WR_RSVD at 0x3 (R132): no effect, not even on IGN. -/
def execWrRsvd3 (_data : Byte) (s : State) : Result := elaborated s s

/-- WR_RSVD at 0x4 to 0x7 (R132). -/
def execWrRsvd (_a : BitVec 2) (_data : Byte) (s : State) : Result := elaborated s s

/-- RD_FRAME (R129). -/
def execRdFrame (n : Index) (_data : Byte) (s : State) : Result := elaborated s (readEffect (s.frameByte n) s)

/-- WR_FRAME (R128). -/
def execWrFrame (n : Index) (v : Byte) (s : State) : Result := elaborated s (frameEffect n v s)

end Sys2Proof.Machine
end

