-- ==== Sys2Proof/Machine/Synchronizer.lean ====
section
/-! DEFINITION. The meanings of the Link Synchronizer's micro-operations (41_synchronizer.md R160 to R163). -/

namespace Sys2Proof.Machine

/-- The AWAIT_START body with the bound T (R162): a start edge wins over the timeout. -/
def awaitBody (bound : Nat) (s : State) : State :=
  if s.startEdge then { s with tRef := s.now, st := .startConfirmed }
  else if bound ≤ s.elapsed then raiseLinkTimeout s
  else s

/-- What the end of the start window writes (R163): the origin, and slot (0, 0). -/
def windowEnd (s : State) : State :=
  { s with tRef := s.now, st := .transmitByte, byteIdx := 0, bitIdx := 0 }

/-- The START_CONFIRMED body (R163). -/
def windowBody (s : State) : State := deadline s s.cfg.tStart (windowEnd s)

/-- WAIT_FOR_START_BIT, the cold wait (R160). -/
def execWaitForStartBit (_x : BitVec 2) (s : State) : Result := elaborated s (awaitBody s.cfg.timeoutCold s)

/-- WAIT_NEXT_START, the warm wait (R161). -/
def execWaitNextStart (_x : BitVec 2) (s : State) : Result := elaborated s (awaitBody s.cfg.timeoutWarm s)

/-- WAIT_START_BIT_COMPLETE (R163). -/
def execWaitStartBitComplete (_x : BitVec 3) (s : State) : Result := elaborated s (windowBody s)

end Sys2Proof.Machine
end

