-- ==== Sys2Proof/Machine/Transceiver.lean ====
section
/-! DEFINITION. The meanings of the Frame Transceiver's micro-operations (42_transceiver.md R184 to R198). -/

namespace Sys2Proof.Machine

/-- What the drive of a slot writes, for the data bit b (R184). -/
def driveAction (b : Bool) (s : State) : State :=
  { s with outQ := s.cfg.pinlevel b, st := .receiveByte, tail := false }

/-- The TRANSMIT_BYTE body for the data bit b (R184). -/
def driveBody (b : Bool) (s : State) : State :=
  deadline s (s.cfg.driveTarget s.byteIdx s.bitIdx) (driveAction b s)

/-- What the sample of a slot writes (R188). -/
def sampleAction (s : State) : State :=
  let s1 := { s with rxShift := setBit s.rxShift s.bitIdx (s.cfg.bitof s.asserted) }
  if s.bitIdx = 7 then { s1 with tail := true }
  else { s1 with st := .transmitByte, bitIdx := s.bitIdx + 1 }

/-- The sample phase of RECEIVE_BYTE (R188). -/
def sampleBody (s : State) : State :=
  deadline s (s.cfg.sampleTarget s.byteIdx s.bitIdx) (sampleAction s)

/-- The repeat controller (R193). DEDUCED, the model's choice (log 18): on SUCCESS `rep` keeps its value, as 10_state.md
R40 and R193 have it, where decision D34 says that it is zeroed. -/
def repeatDecision (s : State) : State :=
  if s.rep = s.repeatsM1 then
    { s with byteIdx := 0, bitIdx := 0, st := .success, done := true, ok := true }
  else
    { s with byteIdx := 0, bitIdx := 0, rep := s.rep + 1, st := .awaitStart, warm := true, tRef := s.now }

/-- What the end of every byte writes (R190): the line is released and the received byte stored. -/
def releaseAndStore (s : State) : State :=
  { s.setFrame s.byteIdx s.rxShift with outQ := s.cfg.outIdle, tail := false }

/-- What the end of a byte writes (R190): the next byte, or the repeat controller after byte 7. -/
def byteEndAction (s : State) : State :=
  if s.byteIdx = 7 then repeatDecision (releaseAndStore s)
  else { releaseAndStore s with st := .transmitByte, byteIdx := s.byteIdx + 1, bitIdx := 0 }

/-- The tail phase of RECEIVE_BYTE (R190). -/
def byteEndBody (s : State) : State := deadline s (s.cfg.endTarget s.byteIdx) (byteEndAction s)

/-- TRANSMIT_ONE (R185). -/
def execTransmitOne (_x : BitVec 2) (s : State) : Result := elaborated s (driveBody true s)

/-- TRANSMIT_ZERO (R186). -/
def execTransmitZero (_x : BitVec 2) (s : State) : Result := elaborated s (driveBody false s)

/-- RECEIVE_BIT (R188). -/
def execReceiveBit (_warm _txbit : BitVec 1) (s : State) : Result := elaborated s (sampleBody s)

/-- BYTE_COMPLETE (R190). -/
def execByteComplete (_warm _txbit : BitVec 1) (s : State) : Result := elaborated s (byteEndBody s)

/-- HOLD_UNCONFIGURED (R195): the FSM does nothing. -/
def execHoldUnconfigured (_x : BitVec 3) (s : State) : Result := elaborated s s

/-- HOLD_IDLE (R196): the FSM does nothing. -/
def execHoldIdle (_x : BitVec 3) (s : State) : Result := elaborated s s

/-- HOLD_SUCCESS (R197): the FSM does nothing. -/
def execHoldSuccess (_x : BitVec 3) (s : State) : Result := elaborated s s

/-- HOLD_DESYNC (R198): the FSM does nothing. -/
def execHoldDesync (_x : BitVec 3) (s : State) : Result := elaborated s s

end Sys2Proof.Machine
end

