-- ==== Sys2Proof/Machine/Cycle.lean ====
section
/-! DEFINITION. One whole cycle of the block as 42_transceiver.md R200 writes it: three parts on the current values,
all writes landing together. It decodes nothing: the host part goes by register address (20_memory.md R72, R73), the
FSM part by state. The composite instructions run it; `step` is written the other way, over `exec`. -/

namespace Sys2Proof.Machine

/-- The host write transaction of the byte v at address a (20_memory.md R73, 10_state.md R31 to R36). -/
def hostWrite (a : Addr) (v : Byte) (s : State) : State :=
  if a = 0x0 then
    if v.getLsbD 0 then beginEffect s
    else if v.getLsbD 1 then loopEffect s
    else ctrlNopEffect s
  else if a = 0x2 then configEffect (v.extractLsb' 0 2) s
  else if a.getLsbD 3 then frameEffect (a.extractLsb' 0 3) v s
  else s

/-- Part (2) of R200, the host port. A read writes no register (20_memory.md R76). -/
def hostPart (s : State) : State :=
  if s.input.hSel && s.input.hWe then hostWrite s.input.hAddr s.input.hWdata s else s

/-- Part (3) of R200, the FSM. -/
def fsmPart (s : State) : State :=
  match s.st with
  | .unconfigured | .idle | .success | .desyncFailure => s
  | .awaitStart => awaitBody (if s.warm then s.cfg.timeoutWarm else s.cfg.timeoutCold) s
  | .startConfirmed => windowBody s
  | .transmitByte => driveBody s.txbit s
  | .receiveByte => if s.tail then byteEndBody s else sampleBody s

/-- Parts (2) and (3) of R200 together: while busy the FSM writes every register but ign, which the host part writes;
otherwise the host part writes them all. -/
def hostAndFsm (s : State) : State :=
  if s.busy then { fsmPart s with ign := (hostPart s).ign } else hostPart s

/-- Part (1) of R200, the background operations: the state t with the values they write, taken from the state s that the
cycle began in. -/
def backgroundPart (s t : State) : State :=
  { t with
    now := (timestampEffect s).now
    sync1 := (inputSyncEffect s).sync1
    sync2 := (inputSyncEffect s).sync2
    inDb := (debounceEffect s).inDb
    dbCnt := (debounceEffect s).dbCnt
    prevAsserted := (edgeQualifyEffect s).prevAsserted
    idleRun := (edgeQualifyEffect s).idleRun }

/-- One cycle (42_transceiver.md R200). -/
def cycle (s : State) : State :=
  if s.input.rst then resetCycle s
  else nextInput { backgroundPart s (hostAndFsm s) with rdata := s.hRdata }

/-- Cycles while `p` holds, at most n of them. -/
def runWhile (p : State → Bool) : Nat → State → State
  | 0, s => s
  | n + 1, s => if p s then runWhile p n (cycle s) else s

end Sys2Proof.Machine
end

