-- ==== Sys2Proof/Machine/Composite.lean ====
section
/-! DEFINITION. The meanings of the composite rows (opcode_table.json): the deadline wait and the repeat decision, which
are one cycle's action, and the composites that run whole cycles to their end (log 6, 7, 8). -/

namespace Sys2Proof.Machine

/-- A bound on the cycles of any composite (log 7): under 00_scope.md R9 every wait is shorter than `2^TW` cycles, and
a call of four repeats of 138 waits each is the longest composite. -/
def cycleBound (p : Config) : Nat := 1024 * p.modulus

/-- The states of syncTransmission() (41_synchronizer.md R165). -/
def inSync (s : State) : Bool := s.st = .awaitStart ∨ s.st = .startConfirmed

/-- The states in which byte i is exchanged (42_transceiver.md R187, R191, R192). -/
def inByte (i : Index) (s : State) : Bool := (s.st = .transmitByte ∨ s.st = .receiveByte) ∧ s.byteIdx = i

/-- The part of the exchange of byte i before its eighth drive has happened (42_transceiver.md R187). -/
def beforeLastDrive (i : Index) (s : State) : Bool := inByte i s && !(s.st = .receiveByte ∧ s.bitIdx = 7)

/-- Run whole cycles while `p` holds, to the composite's end. -/
def runComposite (p : State → Bool) (s : State) : State := runWhile p (cycleBound s.cfg) s

/-- The host presents LOOP in the current cycle, whatever else was decided for the host port (42_transceiver.md R194,
30_encoding.md R96: WR CTRL, 0x02). -/
def presentLoop (s : State) : State :=
  s.withInput { s.input with hSel := true, hWe := true, hAddr := 0x0, hWdata := 0x02 }

/-- The action of the deadline wait that the FSM is in, if it is in one (42_transceiver.md R181: the three waits of the
transceiver, and START_CONFIRMED). -/
def waitAction (s : State) : Option State :=
  match s.st with
  | .startConfirmed => some (windowEnd s)
  | .transmitByte => some (driveAction s.txbit s)
  | .receiveByte => some (if s.tail then byteEndAction s else sampleAction s)
  | .unconfigured | .idle | .awaitStart | .success | .desyncFailure => none

/-- One cycle of the FSM's wait with the target offset d (42_transceiver.md R181). Where the FSM is in no deadline wait
there is none to evaluate (log 8). -/
def delayEffect (d : Nat) (s : State) : State :=
  match waitAction s with
  | some t => deadline s d t
  | none => s

/-- The whole call: the LOOP cycle, then, if the LOOP was not dropped because a call was in progress, the cycles of the
call (42_transceiver.md R194). -/
def callEffect (s : State) : State :=
  let s1 := cycle (presentLoop s)
  if s.busy then s1 else runComposite State.busy s1

/-- DELAY_US_WITH_START_TIME (42_transceiver.md R181). -/
def execDelayUsWithStartTime (waitTime : Nat) (s : State) : Result := elaborated s (delayEffect waitTime s)

/-- SYNC_TRANSMISSION (41_synchronizer.md R165). -/
def execSyncTransmission (s : State) : Result := elaborated s (runComposite inSync s)

/-- TRANSMIT_BYTE, the eight drives of the current byte (42_transceiver.md R187). -/
def execTransmitByte (s : State) : Result := elaborated s (runComposite (beforeLastDrive s.byteIdx) s)

/-- RECEIVE_BYTE, the eight samples of the current byte and its end (42_transceiver.md R191). -/
def execReceiveByte (s : State) : Result := elaborated s (runComposite (inByte s.byteIdx) s)

/-- REPEAT_CONTROL (42_transceiver.md R193). -/
def execRepeatControl (s : State) : Result := elaborated s (repeatDecision s)

/-- LANC_TRANSMIT_RECEIVE (42_transceiver.md R194). -/
def execLancTransmitReceive (s : State) : Result := elaborated s (callEffect s)

end Sys2Proof.Machine
end

