-- ==== Sys2Proof/Machine/Dispatch.lean ====
section
/-! DEFINITION. The dispatch of every instruction to its meaning. -/

namespace Sys2Proof.Machine

def exec (i : Instr) (s : State) : Host.Outcome State Fault Refusal :=
  match i with
  | .begin x => Sys2Proof.Machine.execBegin x s
  | .loop x => Sys2Proof.Machine.execLoop x s
  | .ctrlNop x => Sys2Proof.Machine.execCtrlNop x s
  | .rdCtrl d => Sys2Proof.Machine.execRdCtrl d s
  | .rdStatus d => Sys2Proof.Machine.execRdStatus d s
  | .wrStatus d => Sys2Proof.Machine.execWrStatus d s
  | .rdConfig d => Sys2Proof.Machine.execRdConfig d s
  | .wrConfig x r => Sys2Proof.Machine.execWrConfig x r s
  | .rdRsvd3 d => Sys2Proof.Machine.execRdRsvd3 d s
  | .rdRsvd a d => Sys2Proof.Machine.execRdRsvd a d s
  | .wrRsvd3 d => Sys2Proof.Machine.execWrRsvd3 d s
  | .wrRsvd a d => Sys2Proof.Machine.execWrRsvd a d s
  | .rdFrame n d => Sys2Proof.Machine.execRdFrame n d s
  | .wrFrame n v => Sys2Proof.Machine.execWrFrame n v s
  | .holdUnconfigured x => Sys2Proof.Machine.execHoldUnconfigured x s
  | .holdIdle x => Sys2Proof.Machine.execHoldIdle x s
  | .waitForStartBit x => Sys2Proof.Machine.execWaitForStartBit x s
  | .waitNextStart x => Sys2Proof.Machine.execWaitNextStart x s
  | .waitStartBitComplete x => Sys2Proof.Machine.execWaitStartBitComplete x s
  | .transmitZero x => Sys2Proof.Machine.execTransmitZero x s
  | .transmitOne x => Sys2Proof.Machine.execTransmitOne x s
  | .receiveBit w b => Sys2Proof.Machine.execReceiveBit w b s
  | .byteComplete w b => Sys2Proof.Machine.execByteComplete w b s
  | .holdSuccess x => Sys2Proof.Machine.execHoldSuccess x s
  | .holdDesync x => Sys2Proof.Machine.execHoldDesync x s
  | .timestampCount => Sys2Proof.Machine.execTimestampCount s
  | .inputSync => Sys2Proof.Machine.execInputSync s
  | .debounce => Sys2Proof.Machine.execDebounce s
  | .edgeQualify => Sys2Proof.Machine.execEdgeQualify s
  | .delayUsWithStartTime t => Sys2Proof.Machine.execDelayUsWithStartTime t s
  | .syncTransmission => Sys2Proof.Machine.execSyncTransmission s
  | .transmitByte => Sys2Proof.Machine.execTransmitByte s
  | .receiveByte => Sys2Proof.Machine.execReceiveByte s
  | .repeatControl => Sys2Proof.Machine.execRepeatControl s
  | .lancTransmitReceive => Sys2Proof.Machine.execLancTransmitReceive s

end Sys2Proof.Machine
end

