-- ==== Sys2Proof/Machine/Step.lean ====
section
/-! DEFINITION. One step of the machine is one clk cycle (00_scope.md R6): the host transaction, the micro-operation
the selector picks and the four background operations, each run by `exec`. Each part reads only registers that no part
before it writes, so the order is that of simultaneous writes (00_scope.md R17, 42_transceiver.md R200; log 5). -/

namespace Sys2Proof.Machine

/-- Decode the bytes of a word and run the instruction they encode. -/
def runWord (bytes : List Byte) (s : State) : Host.Outcome State Fault Refusal :=
  match decode bytes with
  | .ok i => exec i s
  | .error e => .fault (.undecodable e)

/-- Part (2) of R200: the transaction of a cycle with h_sel = 1. -/
def hostPhase (s : State) : Host.Outcome State Fault Refusal :=
  if s.input.hSel then runWord (hostBytes s.input.hostWord) s else .next s

/-- Part (3) of R200: the micro-operation that the selector S of the cycle's start picks. -/
def fsmPhase (S : Selector) (s : State) : Host.Outcome State Fault Refusal := runWord (selectorBytes S) s

/-- Part (1) of R200: the background operations (30_encoding.md R103), each before the ones whose registers it
reads. -/
def backgroundPhase (s : State) : Host.Outcome State Fault Refusal :=
  andThen (exec .edgeQualify s) fun s1 =>
  andThen (exec .debounce s1) fun s2 =>
  andThen (exec .inputSync s2) fun s3 =>
  exec .timestampCount s3

/-- One cycle with rst = 0 (42_transceiver.md R200). -/
def runCycle (s : State) : Host.Outcome State Fault Refusal :=
  andThen (hostPhase (sampleRdata s)) fun s1 =>
  andThen (fsmPhase s.selector s1) fun s2 =>
  andThen (backgroundPhase s2) fun s3 =>
  .next (nextInput s3)

/-- One step: reset overrides everything (60_exceptions.md R240). -/
def step (s : State) : Host.Outcome State Fault Refusal :=
  if s.input.rst then elaborated s (resetCycle s) else runCycle s

/-- The instruction word placed where the next step takes it (log 13): a selector (a row of at most 8 bits) in the
state bits that make it up, a host word on the host port. -/
def State.withFetchWord (s : State) (nbits w : Nat) : State :=
  if nbits ≤ 8 then s.placeSelector (BitVec.ofNat 6 w) else s.placeHostWord (BitVec.ofNat 13 w)

end Sys2Proof.Machine
end

