-- ==== Sys2Proof/Machine/HostProgram.lean ====
section
/-! DEFINITION. What drives the block from outside: the host assembler of 30_encoding.md R96, and the line environments
(95_test_vectors.md; 92_eei_decisions.md D32, D37). No step depends on them: a program or an environment only decides
the inputs of each cycle. -/

namespace Sys2Proof.Machine

/-- A line of a host program (30_encoding.md R96). -/
inductive HostLine where
  /-- `RD <reg>`. -/
  | rd (a : Addr)
  /-- `WR <reg>, <imm8>`. -/
  | wr (a : Addr) (v : Byte)
  /-- `BEGIN`, which is `WR CTRL, 0x01`. -/
  | begin
  /-- `LOOP`, which is `WR CTRL, 0x02`. -/
  | loop
  /-- `NOPC`, which is `WR CTRL, 0x00`. -/
  | nopc
  /-- `SETREP <k>`, which is `WR CONFIG, k-1`; the operand is k - 1. -/
  | setrep (k : BitVec 2)
  /-- `STAGE <n>, <imm8>`, which is `WR FRAME<n>, imm8`. -/
  | stage (n : Index) (v : Byte)
  /-- `WAITDONE`: RD STATUS once per cycle until bit 4 of the value read is 1. -/
  | waitDone
  /-- `GAP <k>`: k cycles with no transaction. -/
  | gap (k : Nat)
  /-- `RST`: one cycle with rst = 1 and no transaction. -/
  | rst
  deriving DecidableEq, Repr

/-- A read transaction's word (R96: we = 0, and the data field, a don't-care, is 0). -/
def readWord (a : Addr) : HostWord := 0#1 ++ a ++ 0x00#8

/-- A write transaction's word (R96). -/
def writeWord (a : Addr) (v : Byte) : HostWord := 1#1 ++ a ++ v

/-- The word of a line that is one transaction (R96). -/
def HostLine.word : HostLine → Option HostWord
  | .rd a => some (readWord a)
  | .wr a v => some (writeWord a v)
  | .begin => some (writeWord 0x0 0x01)
  | .loop => some (writeWord 0x0 0x02)
  | .nopc => some (writeWord 0x0 0x00)
  | .setrep k => some (writeWord 0x2 (0#6 ++ k))
  | .stage n v => some (writeWord (1#1 ++ n) v)
  | .waitDone | .gap _ | .rst => none

/-- What chooses the level of lanc_in in a cycle (00_scope.md R7): any function of the block's outputs and of the cycle
number; the whole state is given. -/
abbrev LineEnv := State → Bool

/-- One step with the host presenting `w` (none: no transaction), on a line environment. -/
def stepWith (env : LineEnv) (w : Option HostWord) (s : State) : Host.Outcome State Fault Refusal :=
  match w with
  | some w => step (s.withInput (Input.ofHostWord w (env s)))
  | none => step (s.withInput (Input.quiet (env s)))

/-- `GAP <k>` (R96). -/
def runGap (env : LineEnv) : Nat → State → Host.Outcome State Fault Refusal
  | 0, s => .next s
  | k + 1, s => andThen (stepWith env none s) (runGap env k)

/-- `WAITDONE` (R96), at most `bound` reads. -/
def runWaitDone (env : LineEnv) : Nat → State → Host.Outcome State Fault Refusal
  | 0, s => .next s
  | n + 1, s =>
    andThen (stepWith env (some (readWord 0x1)) s) fun t =>
      if t.rdata.getLsbD 4 then .next t else runWaitDone env n t

/-- Run one line (R96). -/
def runLine (env : LineEnv) (bound : Nat) (l : HostLine) (s : State) : Host.Outcome State Fault Refusal :=
  match l with
  | .waitDone => runWaitDone env bound s
  | .gap k => runGap env k s
  | .rst => step (s.withInput { Input.quiet (env s) with rst := true })
  | l => stepWith env l.word s

/-- Run the lines of a program in order (R96). -/
def runProgram (env : LineEnv) (bound : Nat) : List HostLine → State → Host.Outcome State Fault Refusal
  | [], s => .next s
  | l :: ls, s => andThen (runLine env bound l s) (runProgram env bound ls)

/-- The line level for a given asserted-ness. -/
def lineLevel (p : Config) (asserted : Bool) : Bool := if asserted then !p.inIdle else p.inIdle

/-- Environment `none`: the line is never asserted (95_test_vectors.md). -/
def idleLine : LineEnv := fun s => s.cfg.inIdle

/-- The block asserts the line it drives (00_scope.md glossary, `asserted`). -/
def State.drivesLine (s : State) : Bool := s.lancOe && (s.lancOut != s.cfg.outIdle)

/-- Environment `loopback`: the line is asserted when lanc_out is asserted with lanc_oe = 1 or when the source of start
pulses asserts it (92_eei_decisions.md D37, 42_transceiver.md R202). -/
def loopback (pulse : Nat → Bool) : LineEnv := fun s => lineLevel s.cfg (s.drivesLine || pulse s.cycle)

end Sys2Proof.Machine
end

