-- ==== Sys2Proof/Safety.lean ====
section
/-! DEFINITION. What holds of every state a run from reset reaches (10_state.md R57, with the widths of the times and
counters), and what it is for the FSM to be on schedule (60_exceptions.md R234). -/

namespace Sys2Proof.Safety

open Sys2Proof.Machine

/-- The invariants of 10_state.md section 3 (R57), the widths of `now` and `t_ref` (R44, R46), and what `tail` and the
ghost `cause` record (R39, R231). -/
structure Inv (s : State) : Prop where
  now_lt : s.now < s.cfg.modulus
  tRef_lt : s.tRef < s.cfg.modulus
  dbCnt_le : s.dbCnt ≤ s.cfg.dbLen - 1
  idleRun_le : s.idleRun ≤ s.cfg.gapMin
  tail_receive : s.tail = true → s.st = .receiveByte
  tail_lastBit : s.tail = true → s.bitIdx = 7
  rep_le : s.busy = true → s.rep ≤ s.repeatsM1
  oe_configured : s.oeQ = false ↔ s.st = .unconfigured
  out_idle : s.st ≠ .transmitByte → s.st ≠ .receiveByte → s.outQ = s.cfg.outIdle
  ok_success : s.ok = true → s.done = true ∧ s.st = .success
  success_flags : s.st = .success → s.done = true ∧ s.ok = true
  desync_flags : s.st = .desyncFailure → s.done = true ∧ s.ok = false
  busy_flags : s.busy = true → s.done = false ∧ s.ok = false
  cause_desync : s.st ≠ .unconfigured → (s.cause ≠ .none ↔ s.st = .desyncFailure)

/-- No deadline wait of the FSM is past its deadline (60_exceptions.md R234, 42_transceiver.md R181). -/
def OnSchedule (s : State) : Prop :=
  match s.st with
  | .startConfirmed => s.elapsed ≤ s.cfg.tStart
  | .transmitByte => s.elapsed ≤ s.cfg.driveTarget s.byteIdx s.bitIdx
  | .receiveByte =>
    if s.tail then s.elapsed ≤ s.cfg.endTarget s.byteIdx
    else s.elapsed ≤ s.cfg.sampleTarget s.byteIdx s.bitIdx
  | .unconfigured | .idle | .awaitStart | .success | .desyncFailure => True

/-! ### What the host presents in a cycle -/

/-- A write transaction to CTRL with BEGIN = 1 (30_encoding.md R93). -/
def beginWritten (s : State) : Bool :=
  s.input.hSel && s.input.hWe && s.input.hAddr == 0x0 && s.input.hWdata.getLsbD 0

/-- A write transaction to CTRL with LOOP = 1 and BEGIN = 0 (30_encoding.md R93). -/
def loopWritten (s : State) : Bool :=
  s.input.hSel && s.input.hWe && s.input.hAddr == 0x0 && !s.input.hWdata.getLsbD 0 && s.input.hWdata.getLsbD 1

/-- An accepted BEGIN (40_host_commands.md R121). -/
def acceptedBegin (s : State) : Bool := beginWritten s && !s.busy

/-- An accepted LOOP (40_host_commands.md R122). -/
def acceptedLoop (s : State) : Bool := loopWritten s && (s.st == .idle || s.st == .success)

/-- A LOOP refused with NotReady (40_host_commands.md R122, 60_exceptions.md R237). -/
def refusedLoop (s : State) : Bool := loopWritten s && (s.st == .unconfigured || s.st == .desyncFailure)

/-- A write transaction to CTRL, CONFIG or FRAMEn (40_host_commands.md R120). -/
def gatedWrite (s : State) : Bool :=
  s.input.hSel && s.input.hWe && (s.input.hAddr == 0x0 || s.input.hAddr == 0x2 || s.input.hAddr.getLsbD 3)

/-- The cycle is the one in which the byte end of byte i happens (42_transceiver.md R190). -/
def byteEndCycle (i : Index) (s : State) : Bool :=
  s.st == .receiveByte && s.tail && s.byteIdx == i && s.elapsed == s.cfg.endTarget i

/-- The bound of the wait in AWAIT_START (41_synchronizer.md R162). -/
def awaitBound (s : State) : Nat := if s.warm then s.cfg.timeoutWarm else s.cfg.timeoutCold

/-- The line is idle from the pin to the debounced level, and stays idle in the cycles already decided, with no
reset. -/
def LineIdle (s : State) : Prop :=
  s.sync1 = s.cfg.inIdle ∧ s.sync2 = s.cfg.inIdle ∧ s.inDb = s.cfg.inIdle
    ∧ ∀ j ∈ s.pending, j.lancIn = s.cfg.inIdle ∧ j.rst = false

/-! ### The sequence of a call -/

/-- RECEIVE_BYTE n times: the exchange of the next n bytes (42_transceiver.md R191, R194). -/
def exchangeBytes : Nat → State → Result
  | 0, s => .next s
  | n + 1, s => andThen (exec .receiveByte s) (exchangeBytes n)

/-- The sequence of n repeats of a call (42_transceiver.md R194): in each, SYNC_TRANSMISSION, then the eight bytes. -/
def callSequence : Nat → State → Result
  | 0, s => .next s
  | n + 1, s => andThen (exec .syncTransmission s) fun t => andThen (exchangeBytes 8 t) (callSequence n)

/-! ### Comparing two states -/

/-- Two states that differ at most in the ghost register `cause` (10_state.md R52). -/
def SameButCause (s t : State) : Prop := { s with cause := t.cause } = t

/-- Two states that differ at most in `rdata` and `ign`. -/
def SameButReadAndIgn (s t : State) : Prop := { s with rdata := t.rdata, ign := t.ign } = t

/-- Two states that differ at most in `rdata`. -/
def SameButRead (s t : State) : Prop := { s with rdata := t.rdata } = t

end Sys2Proof.Safety
end

