-- ==== Sys2Proof/Certificates/Slice0/Obligations.lean ====
section
/-! DEFINITION. The statements for the provers. `structural` is the check of 00_scope.md R9: a parameter set that fails
it has no behaviour. A statement about a next state has, as its conclusion, that the next state exists. -/

open Sys2Proof Sys2Proof.Machine Sys2Proof.Safety

/-! ### Encoding -/

/-- Words written out from 30_encoding.md R93 and R102 and 95_test_vectors.md decode to the instruction they stand for,
a word too wide for its format to nothing (log 10), and the lines of the host assembler give the instructions R96
expands them to. -/
def Obligations.SampleWordsDecode : Prop :=
  decodeTableWord 16 0x1001 = some (.begin 0)
  ∧ decodeTableWord 16 0x1003 = some (.begin 1)
  ∧ decodeTableWord 16 0x1002 = some (.loop 0)
  ∧ decodeTableWord 16 0x10FC = some (.ctrlNop 0x3F)
  ∧ decodeTableWord 16 0x12FE = some (.wrConfig 0x3F 2)
  ∧ decodeTableWord 16 0x1FC3 = some (.wrFrame 7 0xC3)
  ∧ decodeTableWord 16 0x0500 = some (.rdRsvd 1 0x00)
  ∧ decodeTableWord 16 0x0C00 = some (.rdFrame 4 0x00)
  ∧ decodeTableWord 8 0x14 = some (.waitNextStart 0)
  ∧ decodeTableWord 8 0x21 = some (.transmitOne 0)
  ∧ decodeTableWord 8 0x2A = some (.byteComplete 0 0)
  ∧ decodeTableWord 16 0x2000 = none
  ∧ decodeTableWord 8 0x40 = none
  ∧ HostLine.begin.word.map decodeHost = some (.begin 0)
  ∧ HostLine.loop.word.map decodeHost = some (.loop 0)
  ∧ HostLine.nopc.word.map decodeHost = some (.ctrlNop 0)
  ∧ (∀ k, (HostLine.setrep k).word.map decodeHost = some (.wrConfig 0 k))
  ∧ (∀ n v, (HostLine.stage n v).word.map decodeHost = some (.wrFrame n v))

/-- Decoding the encoding of an instruction gives it back, with every operand at every value. -/
def Obligations.DecodeOfEncode : Prop :=
  ∀ (i : Instr) (bytes : List Byte), encode i = some bytes → decode bytes = .ok i

/-- Each of the 2^13 host words is the encoding of exactly one instruction, the one it decodes to, and so is each of
the 2^6 selectors: the rows of each opcode map partition its words, and no bit of a word is lost. -/
def Obligations.OpcodeMapsPartition : Prop :=
  (∀ (w : HostWord) (i : Instr), encodeHost i = some w ↔ i = decodeHost w)
  ∧ ∀ (w : Selector) (i : Instr), encodeSelector i = some w ↔ i = decodeSelector w

/-! ### The step -/

/-- A step runs the instructions it decodes. With rst = 0 it runs, one after the other: the transaction the host
presents, if any; the micro-operation that the selector at the start of the cycle encodes; and the four background
operations. Around them it samples h_rdata first and moves to the next inputs last (the order is the model's, log 5).
-/
def Obligations.StepRunsDecoded : Prop :=
  ∀ (s : State) (i m : Instr), s.input.rst = false → decode (selectorBytes s.selector) = .ok m →
    (s.input.hSel = true → decode (hostBytes s.input.hostWord) = .ok i →
      step s =
        andThen (exec i (sampleRdata s)) fun s1 => andThen (exec m s1) fun s2 =>
        andThen (exec .edgeQualify s2) fun s3 => andThen (exec .debounce s3) fun s4 =>
        andThen (exec .inputSync s4) fun s5 => andThen (exec .timestampCount s5) fun s6 => .next (nextInput s6))
    ∧ (s.input.hSel = false →
      step s =
        andThen (exec m (sampleRdata s)) fun s2 =>
        andThen (exec .edgeQualify s2) fun s3 => andThen (exec .debounce s3) fun s4 =>
        andThen (exec .inputSync s4) fun s5 => andThen (exec .timestampCount s5) fun s6 => .next (nextInput s6))

/-- A word placed by withFetchWord is what the next step fetches (where it is placed is the model's choice, log 13). -/
def Obligations.PlacedWordIsFetched : Prop :=
  ∀ (s : State) (w : Nat),
    (w < 2 ^ 13 →
      (s.withFetchWord 16 w).input.hostWord = BitVec.ofNat 13 w ∧ (s.withFetchWord 16 w).input.hSel = true
        ∧ (s.withFetchWord 16 w).input.rst = false)
    ∧ (w < 2 ^ 6 →
      (s.withFetchWord 8 w).selector = BitVec.ofNat 6 w ∧ (s.withFetchWord 8 w).input.hSel = false
        ∧ (s.withFetchWord 8 w).input.rst = false)

/-- The step, which decodes words and runs their instructions in sequence, is the simultaneous cycle of R200, which
decodes nothing. -/
def Obligations.StepIsSimultaneousCycle : Prop :=
  ∀ s : State, s.cfg.structural = true → step s = .next (cycle s)

/-- With admitted parameters a step always answers a next state, and no step ever ends in a fault. -/
def Obligations.StepNeverStops : Prop :=
  (∀ s : State, s.cfg.structural = true → ∃ t, step s = .next t) ∧ ∀ (s : State) (e : Fault), step s ≠ .fault e

/-- A parameter set that breaks one of the structural constraints has no behaviour: every instruction and every step
refuses it. -/
def Obligations.IllegalParametersRefused : Prop :=
  ∀ (s : State) (i : Instr),
    (s.cfg.tw < 2 ∨ s.cfg.dbLen < 1 ∨ s.cfg.tStart < 1 ∨ s.cfg.tBit < 2
      ∨ (∃ n : Index, 2 ^ s.cfg.tw ≤ s.cfg.offset n + 8 * s.cfg.tBit)
      ∨ (∃ n : Index, 2 ^ s.cfg.tw ≤ s.cfg.offset n + 7 * s.cfg.tBit + s.cfg.sampleAt)
      ∨ 2 ^ s.cfg.tw ≤ s.cfg.tStart
      ∨ s.cfg.timeoutCold < 1 ∨ 2 ^ s.cfg.tw ≤ s.cfg.timeoutCold
      ∨ s.cfg.timeoutWarm < 1 ∨ 2 ^ s.cfg.tw ≤ s.cfg.timeoutWarm) →
    step s = .refused .illegalParameters ∧ exec i s = .refused .illegalParameters

/-! ### Reset -/

/-- After a cycle with rst = 1 every register holds its reset value, whatever the host or the FSM would have done. -/
def Obligations.ResetGivesResetValues : Prop :=
  ∀ s : State, s.cfg.structural = true → s.input.rst = true →
    ∃ t, step s = .next t
      ∧ t.st = .unconfigured ∧ t.warm = false ∧ t.tail = false ∧ t.rep = 0 ∧ t.byteIdx = 0 ∧ t.bitIdx = 0
      ∧ t.rxShift = 0x00 ∧ t.tRef = 0 ∧ t.now = 0
      ∧ t.sync1 = s.cfg.inIdle ∧ t.sync2 = s.cfg.inIdle ∧ t.inDb = s.cfg.inIdle ∧ t.dbCnt = 0
      ∧ t.prevAsserted = false ∧ t.idleRun = 0 ∧ t.outQ = s.cfg.outIdle ∧ t.oeQ = false
      ∧ t.done = false ∧ t.ok = false ∧ t.ign = false ∧ t.cause = .none
      ∧ (∀ i, t.frameByte i = if s.cfg.oneAsserts then 0x00 else 0xFF) ∧ t.repeatsM1 = 3

/-- What the host reads in a reset cycle is the value of the state before the reset; afterwards STATUS reads 0x00 and
CONFIG 0x03. -/
def Obligations.ResetCycleReads : Prop :=
  ∀ s : State, s.cfg.structural = true → s.input.rst = true →
    ∃ t, step s = .next t ∧ t.rdata = s.hostRead s.input.hAddr ∧ t.hostRead 0x1 = 0x00 ∧ t.hostRead 0x2 = 0x03
      ∧ t.busy = false ∧ t.lancOe = false

/-- The invariants hold in the reset state, whatever the parameters, and no deadline wait is past its deadline in it.
-/
def Obligations.InvariantsAtReset : Prop :=
  ∀ p : Config, Inv (State.resetWith p) ∧ OnSchedule (State.resetWith p)

/-- Every step keeps the invariants. -/
def Obligations.InvariantsKept : Prop :=
  ∀ s : State, s.cfg.structural = true → Inv s → ∃ t, step s = .next t ∧ Inv t

/-! ### Host transactions -/

/-- The write gate: while busy, a write to CTRL, CONFIG or FRAMEn sets IGN and does nothing else, whatever its data; a
write to STATUS or to 0x3 to 0x7 has no effect; a read is not gated. -/
def Obligations.WriteGate : Prop :=
  ∀ (s : State) (a : Addr) (v : Byte), s.cfg.structural = true → s.busy = true →
    ((a = 0x0 ∨ a = 0x2 ∨ a.getLsbD 3 = true) →
      runWord (hostBytes (1#1 ++ a ++ v)) s = .next { s with ign := true })
    ∧ ((a = 0x1 ∨ (0x3 ≤ a ∧ a ≤ 0x7)) → runWord (hostBytes (1#1 ++ a ++ v)) s = .next s)
    ∧ runWord (hostBytes (0#1 ++ a ++ v)) s = .next { s with rdata := s.hostRead a }

/-- BEGIN (data[0] = 1, whatever data[7:1] is): when not busy it configures the line and clears the result, and changes
nothing else; when busy it sets IGN and changes nothing else. -/
def Obligations.BeginConfiguresLine : Prop :=
  ∀ (d : Byte) (s : State), s.cfg.structural = true →
    (d.getLsbD 0 = true → decodeHost (1#1 ++ 0x0#4 ++ d) = .begin (d.extractLsb' 1 7))
    ∧ ∀ x, exec (.begin x) s =
        .next (if s.busy then { s with ign := true }
          else { s with
            st := .idle, oeQ := true, outQ := s.cfg.outIdle, done := false, ok := false, ign := false, cause := .none
            warm := false, tail := false })

/-- LOOP (data[1:0] = 10): in IDLE or SUCCESS it starts a cold wait from this cycle and clears the result; when busy it
sets IGN; otherwise it is refused with NotReady. It changes nothing else. -/
def Obligations.LoopStartsCall : Prop :=
  ∀ (d : Byte) (s : State), s.cfg.structural = true →
    (d.extractLsb' 0 2 = 0b10#2 → decodeHost (1#1 ++ 0x0#4 ++ d) = .loop (d.extractLsb' 2 6))
    ∧ ∀ x, exec (.loop x) s =
        .next (if s.busy then { s with ign := true }
          else if s.st = .idle ∨ s.st = .success then
            { s with
              st := .awaitStart, warm := false, tail := false, rep := 0, byteIdx := 0, bitIdx := 0, tRef := s.now
              done := false, ok := false, ign := false, cause := .none }
          else { s with done := true, ok := false, cause := .notReady })

/-- raise NotReady: LOOP in UNCONFIGURED or DESYNC_FAILURE sets DONE, clears OK, records the cause and changes nothing
else; with IGN = 0 and the other flags as the invariants have them, STATUS then reads 0x10 or 0x17. -/
def Obligations.LoopRefusedNotReady : Prop :=
  ∀ (x : BitVec 6) (s : State), s.cfg.structural = true → (s.st = .unconfigured ∨ s.st = .desyncFailure) →
    ∃ t, exec (.loop x) s = .next t ∧ t = { s with done := true, ok := false, cause := .notReady }
      ∧ (s.ign = false → t.status = if s.st = .unconfigured then 0x10 else 0x17)

/-- CTRL_NOP: a CTRL write with neither command bit changes nothing, but sets IGN when busy; data[7:2] has no effect.
-/
def Obligations.CtrlNopOnlySetsIgn : Prop :=
  ∀ (d : Byte) (s : State), s.cfg.structural = true → d.extractLsb' 0 2 = 0#2 →
    decodeHost (1#1 ++ 0x0#4 ++ d) = .ctrlNop (d.extractLsb' 2 6)
    ∧ ∀ x, exec (.ctrlNop x) s = .next (if s.busy then { s with ign := true } else s)

/-- RD_CTRL returns 0x00 in every state and writes no flag. -/
def Obligations.ReadCtrlIsZero : Prop :=
  ∀ (d : Byte) (s : State), s.cfg.structural = true →
    decodeHost (0#1 ++ 0x0#4 ++ d) = .rdCtrl d ∧ exec (.rdCtrl d) s = .next { s with rdata := 0x00 }

/-- RD_STATUS returns the flags and the state code of the current cycle, bit by bit, and clears nothing. -/
def Obligations.ReadStatusFields : Prop :=
  ∀ (d : Byte) (s : State), s.cfg.structural = true →
    decodeHost (0#1 ++ 0x1#4 ++ d) = .rdStatus d
    ∧ ∃ v : Byte, exec (.rdStatus d) s = .next { s with rdata := v }
      ∧ v.getLsbD 7 = false ∧ v.getLsbD 6 = s.ign ∧ v.getLsbD 5 = s.ok ∧ v.getLsbD 4 = s.done
      ∧ v.getLsbD 3 = s.busy ∧ v.extractLsb' 0 3 = s.st.code

/-- RD_CONFIG returns the repeat count, with bits 7:2 zero; after reset it reads 0x03. -/
def Obligations.ReadConfig : Prop :=
  (∀ (d : Byte) (s : State), s.cfg.structural = true →
    decodeHost (0#1 ++ 0x2#4 ++ d) = .rdConfig d
    ∧ ∃ v : Byte, exec (.rdConfig d) s = .next { s with rdata := v }
      ∧ v.extractLsb' 0 2 = s.repeatsM1 ∧ v.extractLsb' 2 6 = 0#6)
  ∧ ∀ p : Config, (State.resetWith p).configByte = 0x03

/-- RD_FRAME returns the current content of the byte, busy or not. -/
def Obligations.ReadFrame : Prop :=
  ∀ (n : Index) (d : Byte) (s : State), s.cfg.structural = true →
    decodeHost (0#1 ++ 1#1 ++ n ++ d) = .rdFrame n d
    ∧ exec (.rdFrame n d) s = .next { s with rdata := s.frameByte n }

/-- Addresses 0x3 to 0x7: a read returns 0x00, a write has no effect and does not set IGN, busy or not. So do the four
rows of the opcode table for these addresses, each on its own. -/
def Obligations.ReservedAddresses : Prop :=
  (∀ (a : Addr) (d : Byte) (s : State), s.cfg.structural = true → 0x3 ≤ a → a ≤ 0x7 →
    exec (decodeHost (0#1 ++ a ++ d)) s = .next { s with rdata := 0x00 }
    ∧ exec (decodeHost (1#1 ++ a ++ d)) s = .next s)
  ∧ ∀ (a : BitVec 2) (d : Byte) (s : State), s.cfg.structural = true →
    exec (.rdRsvd3 d) s = .next { s with rdata := 0x00 } ∧ exec (.rdRsvd a d) s = .next { s with rdata := 0x00 }
    ∧ exec (.wrRsvd3 d) s = .next s ∧ exec (.wrRsvd a d) s = .next s

/-- WR_STATUS has no effect, not even on IGN when busy. -/
def Obligations.WriteStatusIgnored : Prop :=
  ∀ (d : Byte) (s : State), s.cfg.structural = true →
    decodeHost (1#1 ++ 0x1#4 ++ d) = .wrStatus d ∧ exec (.wrStatus d) s = .next s

/-- WR_CONFIG sets the repeat count to data[1:0] when not busy, else sets IGN; data[7:2] is ignored. -/
def Obligations.WriteConfig : Prop :=
  ∀ (d : Byte) (s : State), s.cfg.structural = true →
    decodeHost (1#1 ++ 0x2#4 ++ d) = .wrConfig (d.extractLsb' 2 6) (d.extractLsb' 0 2)
    ∧ ∀ x r, exec (.wrConfig x r) s = .next (if s.busy then { s with ign := true } else { s with repeatsM1 := r })

/-- WR_FRAME stages the byte when not busy: a read of FRAMEn then returns it, every other byte of the frame and every
other register are as before. When busy it sets IGN and nothing else. -/
def Obligations.WriteFrameStagesByte : Prop :=
  ∀ (n : Index) (v : Byte) (s : State), s.cfg.structural = true →
    decodeHost (1#1 ++ 1#1 ++ n ++ v) = .wrFrame n v
    ∧ (s.busy = true → exec (.wrFrame n v) s = .next { s with ign := true })
    ∧ (s.busy = false → ∃ t, exec (.wrFrame n v) s = .next t ∧ t = { s with frame := t.frame }
        ∧ t.hostRead (1#1 ++ n) = v ∧ ∀ k, k ≠ n → t.frameByte k = s.frameByte k)

/-- IGN: with rst = 0, it is 1 after a cycle exactly if a write to CTRL, CONFIG or FRAMEn fell in it while busy, or it
was 1 and neither an accepted BEGIN nor an accepted LOOP cleared it. -/
def Obligations.IgnSetAndCleared : Prop :=
  ∀ s : State, s.cfg.structural = true → s.input.rst = false →
    ∃ t, step s = .next t
      ∧ (t.ign = true ↔
          (s.busy = true ∧ gatedWrite s = true)
          ∨ (s.ign = true ∧ acceptedBegin s = false ∧ acceptedLoop s = false))

/-- In a cycle with h_sel = 0 the host port changes no state: h_we, h_addr and h_wdata are ignored. Only what the port
h_rdata shows depends on h_addr. -/
def Obligations.NoTransactionNoEffect : Prop :=
  ∀ (s : State) (j : Input) (we : Bool) (a : Addr) (v : Byte), s.cfg.structural = true → j.hSel = false →
    ∃ t u, step (s.withInput j) = .next t
      ∧ step (s.withInput { j with hWe := we, hAddr := a, hWdata := v }) = .next u ∧ SameButRead t u

/-- No read has a side effect: a cycle with a read and the same cycle with no transaction differ at most in the value
the host sees. -/
def Obligations.ReadsHaveNoSideEffect : Prop :=
  ∀ (s : State) (j : Input) (a : Addr), s.cfg.structural = true →
    ∃ t u, step (s.withInput { j with hSel := true, hWe := false, hAddr := a }) = .next t
      ∧ step (s.withInput { j with hSel := false }) = .next u ∧ SameButRead t u

/-- Nothing the host presents disturbs an exchange: while busy, two cycles that differ only in the transaction end in
states that differ at most in IGN and in the value read. -/
def Obligations.HostCannotDisturbExchange : Prop :=
  ∀ (s : State) (j : Input) (sel we : Bool) (a : Addr) (v : Byte), s.cfg.structural = true → s.busy = true →
    ∃ t u, step (s.withInput j) = .next t
      ∧ step (s.withInput { j with hSel := sel, hWe := we, hAddr := a, hWdata := v }) = .next u
      ∧ SameButReadAndIgn t u

/-! ### Background operations -/

/-- The timestamp counter counts every cycle with rst = 0, modulo 2^TW, in every state. -/
def Obligations.TimestampCounts : Prop :=
  ∀ s : State, s.cfg.structural = true →
    exec .timestampCount s = .next { s with now := (s.now + 1) % 2 ^ s.cfg.tw }
    ∧ (s.input.rst = false → ∃ t, step s = .next t ∧ t.now = (s.now + 1) % 2 ^ s.cfg.tw)

/-- The input path: sync1 takes the level of lanc_in and sync2 takes sync1; the debounce filter in its three cases; the
edge qualifier's registers. Each operation writes nothing else. And when there is a start edge: in every cycle as R154
says, and not as R263 says of a line asserted from reset on, which is the model's choice between two rules of the spec
(log 17). -/
def Obligations.InputPath : Prop :=
  ∀ s : State, s.cfg.structural = true →
    exec .inputSync s = .next { s with sync1 := s.input.lancIn, sync2 := s.sync1 }
    ∧ exec .debounce s =
      .next (if s.sync2 = s.inDb then { s with dbCnt := 0 }
        else if s.dbCnt + 1 ≥ s.cfg.dbLen then { s with inDb := s.sync2, dbCnt := 0 }
        else { s with dbCnt := s.dbCnt + 1 })
    ∧ exec .edgeQualify s =
      .next { s with
        prevAsserted := (s.inDb != s.cfg.inIdle)
        idleRun := if s.inDb ≠ s.cfg.inIdle then 0 else min (s.idleRun + 1) s.cfg.gapMin }
    ∧ (s.startEdge = true ↔ s.inDb ≠ s.cfg.inIdle ∧ s.prevAsserted = false ∧ s.cfg.gapMin ≤ s.idleRun)

/-- The debounced level follows a changed level after exactly DB_LEN cycles of it, and not before. -/
def Obligations.DebounceLatency : Prop :=
  ∀ (s : State) (k : Nat), s.cfg.structural = true → s.sync2 ≠ s.inDb → s.dbCnt = 0 → k ≤ s.cfg.dbLen →
    debounceEffect^[k] s =
      if k < s.cfg.dbLen then { s with dbCnt := k } else { s with inDb := s.sync2, dbCnt := 0 }

/-- The four background operations run in every cycle with rst = 0, whatever the selector and the host do. -/
def Obligations.BackgroundRunsAlways : Prop :=
  ∀ s : State, s.cfg.structural = true → s.input.rst = false →
    ∃ t, step s = .next t
      ∧ t.now = (timestampEffect s).now ∧ t.sync1 = s.input.lancIn ∧ t.sync2 = s.sync1
      ∧ t.inDb = (debounceEffect s).inDb ∧ t.dbCnt = (debounceEffect s).dbCnt
      ∧ t.prevAsserted = s.asserted ∧ t.idleRun = (edgeQualifyEffect s).idleRun

/-- The level of lanc_in in a cycle reaches no register but sync1 at its end: there is no path from the input to
lanc_out, to lanc_oe or to the FSM in the same cycle. -/
def Obligations.LineReachesOnlySync1 : Prop :=
  ∀ (s : State) (j : Input) (level : Bool), s.cfg.structural = true →
    ∃ t u, step (s.withInput j) = .next t ∧ step (s.withInput { j with lancIn := level }) = .next u
      ∧ { t with sync1 := u.sync1 } = u

/-! ### The Link Synchronizer -/

/-- AWAIT_START, cold and warm: a start edge is taken at once, with its timestamp; otherwise LinkTimeout is raised when
the bound is reached; otherwise nothing changes. The selector picks the wait by `warm`. -/
def Obligations.AwaitStart : Prop :=
  ∀ (x : BitVec 2) (s : State), s.cfg.structural = true →
    exec (.waitForStartBit x) s =
      .next (if s.startEdge then { s with tRef := s.now, st := .startConfirmed }
        else if s.elapsed ≥ s.cfg.timeoutCold then fail .linkTimeout s else s)
    ∧ exec (.waitNextStart x) s =
      .next (if s.startEdge then { s with tRef := s.now, st := .startConfirmed }
        else if s.elapsed ≥ s.cfg.timeoutWarm then fail .linkTimeout s else s)
    ∧ (s.st = .awaitStart →
        ∃ y, decodeSelector s.selector = if s.warm then .waitNextStart y else .waitForStartBit y)

/-- START_CONFIRMED: at e = T_START the origin is set and slot (0, 0) begins; before it nothing changes; after it
TimingViolation is raised. The selector of START_CONFIRMED is this micro-operation's. -/
def Obligations.StartWindow : Prop :=
  ∀ (x : BitVec 3) (s : State), s.cfg.structural = true →
    exec (.waitStartBitComplete x) s =
      .next (if s.elapsed = s.cfg.tStart then
          { s with tRef := s.now, st := .transmitByte, byteIdx := 0, bitIdx := 0 }
        else if s.elapsed > s.cfg.tStart then fail .timingViolation s else s)
    ∧ (s.st = .startConfirmed → ∃ y, decodeSelector s.selector = .waitStartBitComplete y)

/-- On a line that stays idle, a wait for a start edge ends with LinkTimeout in exactly the cycle with e = T, and the
output stays idle. -/
def Obligations.IdleLineTimesOut : Prop :=
  ∀ s : State, s.cfg.structural = true → s.st = .awaitStart → LineIdle s → s.elapsed ≤ awaitBound s →
    awaitBound s - s.elapsed < s.pending.length → s.outQ = s.cfg.outIdle →
    ∃ t u, core.run (awaitBound s - s.elapsed) s = .next t ∧ t.st = .awaitStart ∧ t.elapsed = awaitBound s
      ∧ step t = .next u ∧ u.st = .desyncFailure ∧ u.cause = .linkTimeout ∧ u.done = true ∧ u.ok = false
      ∧ t.outQ = s.cfg.outIdle ∧ u.outQ = s.cfg.outIdle

/-! ### The Frame Transceiver -/

/-- TRANSMIT_ONE and TRANSMIT_ZERO: at the slot's deadline the level that encodes the bit is driven and the sample
phase begins; before it nothing changes; after it TimingViolation is raised. The selector of TRANSMIT_BYTE picks
between the two by the slot's bit. -/
def Obligations.DriveSlot : Prop :=
  ∀ (x : BitVec 2) (s : State), s.cfg.structural = true →
    let d := s.cfg.offset s.byteIdx + s.bitIdx.toNat * s.cfg.tBit
    exec (.transmitOne x) s =
      .next (if s.elapsed = d then
          { s with
            outQ := if s.cfg.oneAsserts then !s.cfg.outIdle else s.cfg.outIdle
            st := .receiveByte
            tail := false }
        else if s.elapsed > d then fail .timingViolation s else s)
    ∧ exec (.transmitZero x) s =
      .next (if s.elapsed = d then
          { s with
            outQ := if s.cfg.oneAsserts then s.cfg.outIdle else !s.cfg.outIdle
            st := .receiveByte
            tail := false }
        else if s.elapsed > d then fail .timingViolation s else s)
    ∧ (s.st = .transmitByte →
        ∃ y, decodeSelector s.selector
          = if bitOf (s.frameByte s.byteIdx) s.bitIdx then .transmitOne y else .transmitZero y)

/-- A drive that is waited for happens in exactly the cycle with e = D: until then the output does not change, and in
the next cycle it carries the level of the slot's bit. -/
def Obligations.DriveActsAtDeadline : Prop :=
  ∀ s : State, s.cfg.structural = true → s.st = .transmitByte →
    s.elapsed ≤ s.cfg.driveTarget s.byteIdx s.bitIdx →
    s.cfg.driveTarget s.byteIdx s.bitIdx - s.elapsed < s.pending.length →
    (∀ j ∈ s.pending, j.rst = false) →
    ∃ t u, core.run (s.cfg.driveTarget s.byteIdx s.bitIdx - s.elapsed) s = .next t
      ∧ t.st = .transmitByte ∧ t.outQ = s.outQ ∧ t.elapsed = s.cfg.driveTarget s.byteIdx s.bitIdx
      ∧ step t = .next u ∧ u.st = .receiveByte ∧ u.outQ = s.cfg.pinlevel s.txbit

/-- RECEIVE_BIT: at the sample point, bit j of rx_shift takes the bit the line's asserted-ness decodes to and no other
bit changes; then the next slot's drive, or after bit 7 the tail, is awaited. It is what the selector of RECEIVE_BYTE
with tail = 0 picks. -/
def Obligations.SampleSlot : Prop :=
  ∀ (w b : BitVec 1) (s : State), s.cfg.structural = true →
    let d := s.cfg.offset s.byteIdx + s.bitIdx.toNat * s.cfg.tBit + s.cfg.sampleAt
    (s.elapsed < d → exec (.receiveBit w b) s = .next s)
    ∧ (s.elapsed > d → exec (.receiveBit w b) s = .next (fail .timingViolation s))
    ∧ (s.elapsed = d → ∃ r : Byte,
        exec (.receiveBit w b) s =
          .next (if s.bitIdx = 7 then { s with rxShift := r, tail := true }
            else { s with rxShift := r, st := .transmitByte, bitIdx := s.bitIdx + 1 })
        ∧ ∀ k, bitOf r k =
            if k = s.bitIdx then (if s.asserted then s.cfg.oneAsserts else !s.cfg.oneAsserts)
            else bitOf s.rxShift k)
    ∧ (s.st = .receiveByte → s.tail = false → ∃ u v, decodeSelector s.selector = .receiveBit u v)

/-- BYTE_COMPLETE: at the end of byte i the line is released and the received byte overwrites frame[i], no other byte
changing; then the next byte, or after byte 7 the repeat controller. It is what the selector of RECEIVE_BYTE with tail
= 1 picks. That `rep` keeps its value on SUCCESS is the model's choice between two texts of the spec (log 18). -/
def Obligations.ByteEnd : Prop :=
  ∀ (w b : BitVec 1) (s : State), s.cfg.structural = true →
    let d := s.cfg.offset s.byteIdx + 8 * s.cfg.tBit
    (s.elapsed < d → exec (.byteComplete w b) s = .next s)
    ∧ (s.elapsed > d → exec (.byteComplete w b) s = .next (fail .timingViolation s))
    ∧ (s.elapsed = d → ∃ f : Vector Byte 8,
        (∀ k : Index, f[k.toNat]'k.isLt = if k = s.byteIdx then s.rxShift else s.frameByte k)
        ∧ exec (.byteComplete w b) s =
          .next (if s.byteIdx ≠ 7 then
              { s with
                outQ := s.cfg.outIdle, frame := f, tail := false
                st := .transmitByte, byteIdx := s.byteIdx + 1, bitIdx := 0 }
            else if s.rep = s.repeatsM1 then
              { s with
                outQ := s.cfg.outIdle, frame := f, tail := false
                byteIdx := 0, bitIdx := 0, st := .success, done := true, ok := true }
            else
              { s with
                outQ := s.cfg.outIdle, frame := f, tail := false
                byteIdx := 0, bitIdx := 0, rep := s.rep + 1, st := .awaitStart, warm := true, tRef := s.now })
        ∧ (s.byteIdx = 7 →
            exec (.byteComplete w b) s
              = exec .repeatControl { s with outQ := s.cfg.outIdle, frame := f, tail := false }))
    ∧ (s.st = .receiveByte → s.tail = true → ∃ u v, decodeSelector s.selector = .byteComplete u v)

/-- REPEAT_CONTROL: SUCCESS after the last repeat, else the warm wait of the next one. That `rep` keeps its value on
SUCCESS is the model's choice between two texts of the spec (log 18). -/
def Obligations.RepeatController : Prop :=
  ∀ s : State, s.cfg.structural = true →
    exec .repeatControl s =
      .next (if s.rep = s.repeatsM1 then
          { s with byteIdx := 0, bitIdx := 0, st := .success, done := true, ok := true }
        else
          { s with
            byteIdx := 0, bitIdx := 0, rep := s.rep + 1, st := .awaitStart, warm := true, tRef := s.now })

/-- The hold micro-operations change nothing. -/
def Obligations.HoldsChangeNothing : Prop :=
  ∀ (x : BitVec 3) (s : State), s.cfg.structural = true →
    exec (.holdUnconfigured x) s = .next s ∧ exec (.holdIdle x) s = .next s
    ∧ exec (.holdSuccess x) s = .next s ∧ exec (.holdDesync x) s = .next s

/-- DELAY_US_WITH_START_TIME. Every timed micro-operation is the deadline wait with its own target; in a state that
waits, before any target nothing changes, at it the wait's action happens and after it TimingViolation is raised; in a
state that does not wait there is nothing to do (that the action is the current state's is the model's reading, log 8).
-/
def Obligations.DelayIsTheTimedWait : Prop :=
  ∀ (d : Nat) (s : State), s.cfg.structural = true →
    ((s.st = .startConfirmed ∨ s.st = .transmitByte ∨ s.st = .receiveByte) →
      (s.elapsed < d → exec (.delayUsWithStartTime d) s = .next s)
      ∧ (s.elapsed = d → ∃ t, exec (.delayUsWithStartTime d) s = .next t ∧ waitAction s = some t)
      ∧ (s.elapsed > d → exec (.delayUsWithStartTime d) s = .next (fail .timingViolation s)))
    ∧ ((s.st = .unconfigured ∨ s.st = .idle ∨ s.st = .awaitStart ∨ s.st = .success ∨ s.st = .desyncFailure) →
      exec (.delayUsWithStartTime d) s = .next s)
    ∧ (s.st = .startConfirmed → ∀ x,
      exec (.waitStartBitComplete x) s = exec (.delayUsWithStartTime s.cfg.tStart) s)
    ∧ (s.st = .transmitByte → ∀ x,
      exec (if s.txbit then .transmitOne x else .transmitZero x) s
        = exec (.delayUsWithStartTime (s.cfg.driveTarget s.byteIdx s.bitIdx)) s)
    ∧ (s.st = .receiveByte → ∀ u v,
      exec (if s.tail then .byteComplete u v else .receiveBit u v) s
        = exec (.delayUsWithStartTime
            (if s.tail then s.cfg.endTarget s.byteIdx else s.cfg.sampleTarget s.byteIdx s.bitIdx)) s)

/-- The line encoding is undone by the line decoding, an asserted bit is the level that is not idle, and every bit of
the idle byte leaves the line non-asserted (inferences of 30_encoding.md section 3). -/
def Obligations.LineEncoding : Prop :=
  ∀ (p : Config) (b : Bool) (j : Index),
    p.bitof (p.asserts b) = b ∧ (p.asserts b = true ↔ p.pinlevel b ≠ p.outIdle)
    ∧ p.asserts (bitOf p.idleByte j) = false

/-! ### The composites -/

/-- SYNC_TRANSMISSION ends: with the origin set one cycle ago and slot (0, 0) next, or in a failure with the line
released, or in a reset. But in a reset, neither the frame nor the configuration nor the output enable changes, nor the
repeat index, and without a failure neither does the output or the result. With a start edge in this cycle, or on
schedule in the start window, and with no reset decided, it ends with the origin set. -/
def Obligations.SyncTransmissionEnds : Prop :=
  ∀ s : State, s.cfg.structural = true →
    ∃ t, exec .syncTransmission s = .next t
      ∧ (inSync s = false → t = s)
      ∧ (inSync s = true → t.st ≠ .unconfigured →
          t.frame = s.frame ∧ t.repeatsM1 = s.repeatsM1 ∧ t.oeQ = s.oeQ ∧ t.rep = s.rep ∧ t.warm = s.warm
          ∧ t.rxShift = s.rxShift ∧ (s.ign = true → t.ign = true)
          ∧ ((t.st = .transmitByte ∧ t.byteIdx = 0 ∧ t.bitIdx = 0 ∧ t.elapsed = 1
                ∧ t.outQ = s.outQ ∧ t.tail = s.tail ∧ t.done = s.done ∧ t.ok = s.ok ∧ t.cause = s.cause)
            ∨ (t.st = .desyncFailure ∧ t.byteIdx = s.byteIdx ∧ t.bitIdx = s.bitIdx
                ∧ t.outQ = s.cfg.outIdle ∧ t.tail = false ∧ t.done = true ∧ t.ok = false)))
      ∧ ((s.st = .awaitStart ∧ s.startEdge = true) ∨ (s.st = .startConfirmed ∧ s.elapsed ≤ s.cfg.tStart) →
          (∀ j ∈ s.pending, j.rst = false) → s.cfg.tStart < s.pending.length → t.st = .transmitByte)

/-- TRANSMIT_BYTE ends: with the eighth bit of the byte on the output, or in a TimingViolation with the line released,
or in a reset. But in a reset, neither the frame, the configuration, the output enable, the origin, the byte index nor
the repeat index changes, and without a failure neither does the result. On schedule and with no reset decided, it ends
with the eighth bit on the output. -/
def Obligations.TransmitByteEnds : Prop :=
  ∀ s : State, s.cfg.structural = true → s.st = .transmitByte →
    ∃ t, exec .transmitByte s = .next t
      ∧ (t.st ≠ .unconfigured →
          t.frame = s.frame ∧ t.repeatsM1 = s.repeatsM1 ∧ t.oeQ = s.oeQ ∧ t.rep = s.rep ∧ t.warm = s.warm
          ∧ t.tRef = s.tRef ∧ t.byteIdx = s.byteIdx ∧ t.tail = false ∧ (s.ign = true → t.ign = true)
          ∧ ((t.st = .receiveByte ∧ t.bitIdx = 7 ∧ t.outQ = s.cfg.pinlevel (bitOf (s.frameByte s.byteIdx) 7)
                ∧ t.done = s.done ∧ t.ok = s.ok ∧ t.cause = s.cause)
            ∨ (t.st = .desyncFailure ∧ t.outQ = s.cfg.outIdle ∧ t.done = true ∧ t.ok = false
                ∧ t.cause = .timingViolation)))
      ∧ (s.cfg.Scheduled → OnSchedule s → (∀ j ∈ s.pending, j.rst = false) →
          s.cfg.driveTarget s.byteIdx 7 - s.elapsed < s.pending.length → t.st = .receiveByte)

/-- RECEIVE_BYTE ends: with the assembled byte in frame[i] and every other byte unchanged, or in a TimingViolation with
the frame not written, or in a reset. But in a reset, the line is released, neither the configuration nor the output
enable changes, and before the last byte neither do the origin, the repeat index and, without a failure, the result. On
schedule and with no reset decided, it ends with the byte stored. -/
def Obligations.ReceiveByteEnds : Prop :=
  ∀ s : State, s.cfg.structural = true → (s.st = .transmitByte ∨ s.st = .receiveByte) →
    ∃ t, exec .receiveByte s = .next t
      ∧ (t.st ≠ .unconfigured →
          t.repeatsM1 = s.repeatsM1 ∧ t.oeQ = s.oeQ ∧ t.outQ = s.cfg.outIdle ∧ t.tail = false
          ∧ (s.ign = true → t.ign = true)
          ∧ ((t.st ≠ .desyncFailure ∧ t.frameByte s.byteIdx = t.rxShift
                ∧ (∀ k, k ≠ s.byteIdx → t.frameByte k = s.frameByte k)
                ∧ if s.byteIdx = 7 then t.byteIdx = 0 ∧ t.bitIdx = 0 ∧ (t.st = .success ∨ t.st = .awaitStart)
                  else
                    t.st = .transmitByte ∧ t.byteIdx = s.byteIdx + 1 ∧ t.bitIdx = 0
                    ∧ t.tRef = s.tRef ∧ t.rep = s.rep ∧ t.warm = s.warm
                    ∧ t.done = s.done ∧ t.ok = s.ok ∧ t.cause = s.cause)
            ∨ (t.st = .desyncFailure ∧ t.frame = s.frame ∧ t.byteIdx = s.byteIdx ∧ t.tRef = s.tRef ∧ t.rep = s.rep
                ∧ t.warm = s.warm ∧ t.done = true ∧ t.ok = false ∧ t.cause = .timingViolation)))
      ∧ (s.cfg.Scheduled → OnSchedule s → (∀ j ∈ s.pending, j.rst = false) →
          s.cfg.endTarget s.byteIdx - s.elapsed < s.pending.length → t.st ≠ .desyncFailure ∧ t.st ≠ .unconfigured)

/-- LANC_TRANSMIT_RECEIVE is the sequence of R194: the cycle of an accepted LOOP, then for each of the repeats
SYNC_TRANSMISSION and eight times RECEIVE_BYTE. Once the call has ended, what is left of the sequence changes nothing.
-/
def Obligations.CallIsItsSequence : Prop :=
  ∀ s : State, s.cfg.structural = true → s.input.rst = false → (s.st = .idle ∨ s.st = .success) →
    ∃ t, exec .lancTransmitReceive s = .next t
      ∧ andThen (step (presentLoop s)) (callSequence (s.repeatsM1.toNat + 1)) = .next t

/-- LANC_TRANSMIT_RECEIVE: every call ends, with success or with failure, and then the line is released; a LOOP that
the state does not accept starts no call. But in a reset, the configuration and the output enable do not change. -/
def Obligations.EveryCallEnds : Prop :=
  ∀ s : State, s.cfg.structural = true → s.input.rst = false →
    ∃ t, exec .lancTransmitReceive s = .next t
      ∧ ((s.st = .idle ∨ s.st = .success) → t.st ≠ .unconfigured →
          t.done = true ∧ t.outQ = s.cfg.outIdle ∧ t.oeQ = s.oeQ ∧ t.repeatsM1 = s.repeatsM1
          ∧ ((t.st = .success ∧ t.ok = true) ∨ (t.st = .desyncFailure ∧ t.ok = false)))
      ∧ ((s.st = .unconfigured ∨ s.st = .desyncFailure) →
          t.st = s.st ∧ t.done = true ∧ t.ok = false ∧ t.cause = .notReady
          ∧ t.outQ = s.outQ ∧ t.oeQ = s.oeQ ∧ t.repeatsM1 = s.repeatsM1 ∧ t.frame = s.frame)
      ∧ (s.busy = true → t.ign = true ∧ t.oeQ = s.oeQ ∧ t.repeatsM1 = s.repeatsM1)

/-! ### Failures -/

/-- Failure entry: when a busy block enters DESYNC_FAILURE, the line is released, DONE is set, OK and tail cleared, the
cause recorded, and every other register of the FSM and the frame keep their values. -/
def Obligations.FailureEntry : Prop :=
  ∀ s : State, s.cfg.structural = true → s.input.rst = false → s.busy = true →
    ∃ t, step s = .next t
      ∧ (t.st = .desyncFailure →
          t.outQ = s.cfg.outIdle ∧ t.done = true ∧ t.ok = false ∧ t.tail = false
          ∧ t.cause = (if s.st = .awaitStart then .linkTimeout else .timingViolation)
          ∧ t.oeQ = s.oeQ ∧ t.rep = s.rep ∧ t.byteIdx = s.byteIdx ∧ t.bitIdx = s.bitIdx ∧ t.tRef = s.tRef
          ∧ t.warm = s.warm ∧ t.rxShift = s.rxShift ∧ t.frame = s.frame)

/-- LinkTimeout is raised exactly in a cycle of AWAIT_START with no start edge and the bound reached. -/
def Obligations.WhenLinkTimeout : Prop :=
  ∀ s : State, s.cfg.structural = true → s.input.rst = false → s.busy = true →
    ∃ t, step s = .next t
      ∧ ((t.st = .desyncFailure ∧ t.cause = .linkTimeout) ↔
          (s.st = .awaitStart ∧ s.startEdge = false ∧ awaitBound s ≤ s.elapsed))

/-- DESYNC_FAILURE is left only by an accepted BEGIN, which enters IDLE and clears DONE, OK and the cause, or by reset.
-/
def Obligations.FailureExit : Prop :=
  ∀ s : State, s.cfg.structural = true → s.st = .desyncFailure → s.input.rst = false →
    ∃ t, step s = .next t
      ∧ t.st = (if acceptedBegin s then .idle else .desyncFailure)
      ∧ (acceptedBegin s = true → t.done = false ∧ t.ok = false ∧ t.cause = .none)

/-- Under the schedule constraints no TimingViolation is ever raised: that no deadline wait is past its deadline is
kept by every step, and no step records TIMING_VIOLATION. Of the start window this holds under every admitted parameter
set. -/
def Obligations.NoTimingViolationOnSchedule : Prop :=
  (∀ s : State, s.cfg.structural = true → s.cfg.Scheduled → OnSchedule s →
    ∃ t, step s = .next t ∧ OnSchedule t ∧ (t.cause = .timingViolation → s.cause = .timingViolation))
  ∧ ∀ s : State, s.cfg.structural = true → (s.st = .startConfirmed → s.elapsed ≤ s.cfg.tStart) →
    ∃ t, step s = .next t ∧ (t.st = .startConfirmed → t.elapsed ≤ t.cfg.tStart)

/-! ### Rules of the whole machine -/

/-- The transitions of the FSM in a cycle with rst = 0. -/
def Obligations.FsmTransitions : Prop :=
  ∀ s : State, s.cfg.structural = true → s.input.rst = false →
    ∃ t, step s = .next t
      ∧ (t.st = s.st ∨
          match s.st with
          | .unconfigured => t.st = .idle
          | .idle => t.st = .awaitStart
          | .awaitStart => t.st = .startConfirmed ∨ t.st = .desyncFailure
          | .startConfirmed => t.st = .transmitByte ∨ t.st = .desyncFailure
          | .transmitByte => t.st = .receiveByte ∨ t.st = .desyncFailure
          | .receiveByte => t.st = .transmitByte ∨ t.st = .awaitStart ∨ t.st = .success ∨ t.st = .desyncFailure
          | .success => t.st = .idle ∨ t.st = .awaitStart
          | .desyncFailure => t.st = .idle)

/-- The output enable is set by an accepted BEGIN and cleared by nothing but reset; outside a call and without BEGIN or
reset, the output does not change. -/
def Obligations.OutputQuietOutsideCalls : Prop :=
  ∀ s : State, s.cfg.structural = true → s.input.rst = false →
    ∃ t, step s = .next t ∧ t.oeQ = (s.oeQ || acceptedBegin s)
      ∧ (s.busy = false → acceptedBegin s = false → t.outQ = s.outQ)

/-- The frame buffer has two writers: an accepted host write of the byte, and the byte end of that byte in a call. -/
def Obligations.FrameWriters : Prop :=
  ∀ (s : State) (i : Index), s.cfg.structural = true → s.input.rst = false →
    ∃ t, step s = .next t
      ∧ t.frameByte i =
        if s.busy = false ∧ s.input.hSel = true ∧ s.input.hWe = true ∧ s.input.hAddr = 1#1 ++ i then s.input.hWdata
        else if byteEndCycle i s then s.rxShift
        else s.frameByte i

/-- In a cycle with rst = 0 the repeat count has one writer, WR_CONFIG when not busy, and the parameters have none. The
parameters are fixed at elaboration; that they are a field of the state is the model's choice (log 1). -/
def Obligations.ConfigWriters : Prop :=
  ∀ s : State, s.cfg.structural = true → s.input.rst = false →
    ∃ t, step s = .next t ∧ t.cfg = s.cfg
      ∧ t.repeatsM1 =
        if s.busy = false ∧ s.input.hSel = true ∧ s.input.hWe = true ∧ s.input.hAddr = 0x2
        then s.input.hWdata.extractLsb' 0 2 else s.repeatsM1

/-- What sets and what clears DONE and OK. -/
def Obligations.ResultFlagWriters : Prop :=
  ∀ s : State, s.cfg.structural = true → s.input.rst = false →
    ∃ t, step s = .next t
      ∧ (s.done = false → t.done = true → (s.busy = true ∧ t.busy = false) ∨ refusedLoop s = true)
      ∧ (s.done = true → t.done = false → acceptedBegin s = true ∨ acceptedLoop s = true)
      ∧ (s.ok = false → t.ok = true → s.busy = true ∧ t.st = .success)
      ∧ (s.ok = true → t.ok = false →
          acceptedBegin s = true ∨ acceptedLoop s = true ∨ refusedLoop s = true ∨ t.st = .desyncFailure)

/-- The ghost cause drives nothing: two states that differ only in it step to states that differ at most in it, with
the same outputs and the same value read. -/
def Obligations.CauseIsInvisible : Prop :=
  ∀ s u : State, s.cfg.structural = true → SameButCause s u →
    ∃ t v, step s = .next t ∧ step u = .next v ∧ SameButCause t v
      ∧ t.lancOut = v.lancOut ∧ t.lancOe = v.lancOe ∧ t.busy = v.busy ∧ t.rdata = v.rdata
end

