-- ==== Sys2Proof/Laws/State.lean ====
section
/-! SUPPORT. The registers after each named update of the state, and the laws of the frame buffer, of a byte's bits, of
the current input and of elapsed time. -/

namespace Sys2Proof.Laws

open Sys2Proof.Machine

/-! ### `setFrame` -/

@[simp] theorem setFrame_cfg (s : State) (i : Index) (b : Byte) : (s.setFrame i b).cfg = s.cfg := rfl
@[simp] theorem setFrame_st (s : State) (i : Index) (b : Byte) : (s.setFrame i b).st = s.st := rfl
@[simp] theorem setFrame_warm (s : State) (i : Index) (b : Byte) : (s.setFrame i b).warm = s.warm := rfl
@[simp] theorem setFrame_tail (s : State) (i : Index) (b : Byte) : (s.setFrame i b).tail = s.tail := rfl
@[simp] theorem setFrame_rep (s : State) (i : Index) (b : Byte) : (s.setFrame i b).rep = s.rep := rfl
@[simp] theorem setFrame_byteIdx (s : State) (i : Index) (b : Byte) : (s.setFrame i b).byteIdx = s.byteIdx := rfl
@[simp] theorem setFrame_bitIdx (s : State) (i : Index) (b : Byte) : (s.setFrame i b).bitIdx = s.bitIdx := rfl
@[simp] theorem setFrame_rxShift (s : State) (i : Index) (b : Byte) : (s.setFrame i b).rxShift = s.rxShift := rfl
@[simp] theorem setFrame_tRef (s : State) (i : Index) (b : Byte) : (s.setFrame i b).tRef = s.tRef := rfl
@[simp] theorem setFrame_now (s : State) (i : Index) (b : Byte) : (s.setFrame i b).now = s.now := rfl
@[simp] theorem setFrame_sync1 (s : State) (i : Index) (b : Byte) : (s.setFrame i b).sync1 = s.sync1 := rfl
@[simp] theorem setFrame_sync2 (s : State) (i : Index) (b : Byte) : (s.setFrame i b).sync2 = s.sync2 := rfl
@[simp] theorem setFrame_inDb (s : State) (i : Index) (b : Byte) : (s.setFrame i b).inDb = s.inDb := rfl
@[simp] theorem setFrame_dbCnt (s : State) (i : Index) (b : Byte) : (s.setFrame i b).dbCnt = s.dbCnt := rfl
@[simp] theorem setFrame_prevAsserted (s : State) (i : Index) (b : Byte) : (s.setFrame i b).prevAsserted = s.prevAsserted := rfl
@[simp] theorem setFrame_idleRun (s : State) (i : Index) (b : Byte) : (s.setFrame i b).idleRun = s.idleRun := rfl
@[simp] theorem setFrame_outQ (s : State) (i : Index) (b : Byte) : (s.setFrame i b).outQ = s.outQ := rfl
@[simp] theorem setFrame_oeQ (s : State) (i : Index) (b : Byte) : (s.setFrame i b).oeQ = s.oeQ := rfl
@[simp] theorem setFrame_done (s : State) (i : Index) (b : Byte) : (s.setFrame i b).done = s.done := rfl
@[simp] theorem setFrame_ok (s : State) (i : Index) (b : Byte) : (s.setFrame i b).ok = s.ok := rfl
@[simp] theorem setFrame_ign (s : State) (i : Index) (b : Byte) : (s.setFrame i b).ign = s.ign := rfl
@[simp] theorem setFrame_cause (s : State) (i : Index) (b : Byte) : (s.setFrame i b).cause = s.cause := rfl
@[simp] theorem setFrame_frame (s : State) (i : Index) (b : Byte) : (s.setFrame i b).frame = s.frame.set i.toNat b i.isLt := rfl
@[simp] theorem setFrame_repeatsM1 (s : State) (i : Index) (b : Byte) : (s.setFrame i b).repeatsM1 = s.repeatsM1 := rfl
@[simp] theorem setFrame_rdata (s : State) (i : Index) (b : Byte) : (s.setFrame i b).rdata = s.rdata := rfl
@[simp] theorem setFrame_pending (s : State) (i : Index) (b : Byte) : (s.setFrame i b).pending = s.pending := rfl
@[simp] theorem setFrame_cycle (s : State) (i : Index) (b : Byte) : (s.setFrame i b).cycle = s.cycle := rfl

/-! ### `sampleRdata` -/

@[simp] theorem sampleRdata_cfg (s : State) : (sampleRdata s).cfg = s.cfg := rfl
@[simp] theorem sampleRdata_st (s : State) : (sampleRdata s).st = s.st := rfl
@[simp] theorem sampleRdata_warm (s : State) : (sampleRdata s).warm = s.warm := rfl
@[simp] theorem sampleRdata_tail (s : State) : (sampleRdata s).tail = s.tail := rfl
@[simp] theorem sampleRdata_rep (s : State) : (sampleRdata s).rep = s.rep := rfl
@[simp] theorem sampleRdata_byteIdx (s : State) : (sampleRdata s).byteIdx = s.byteIdx := rfl
@[simp] theorem sampleRdata_bitIdx (s : State) : (sampleRdata s).bitIdx = s.bitIdx := rfl
@[simp] theorem sampleRdata_rxShift (s : State) : (sampleRdata s).rxShift = s.rxShift := rfl
@[simp] theorem sampleRdata_tRef (s : State) : (sampleRdata s).tRef = s.tRef := rfl
@[simp] theorem sampleRdata_now (s : State) : (sampleRdata s).now = s.now := rfl
@[simp] theorem sampleRdata_sync1 (s : State) : (sampleRdata s).sync1 = s.sync1 := rfl
@[simp] theorem sampleRdata_sync2 (s : State) : (sampleRdata s).sync2 = s.sync2 := rfl
@[simp] theorem sampleRdata_inDb (s : State) : (sampleRdata s).inDb = s.inDb := rfl
@[simp] theorem sampleRdata_dbCnt (s : State) : (sampleRdata s).dbCnt = s.dbCnt := rfl
@[simp] theorem sampleRdata_prevAsserted (s : State) : (sampleRdata s).prevAsserted = s.prevAsserted := rfl
@[simp] theorem sampleRdata_idleRun (s : State) : (sampleRdata s).idleRun = s.idleRun := rfl
@[simp] theorem sampleRdata_outQ (s : State) : (sampleRdata s).outQ = s.outQ := rfl
@[simp] theorem sampleRdata_oeQ (s : State) : (sampleRdata s).oeQ = s.oeQ := rfl
@[simp] theorem sampleRdata_done (s : State) : (sampleRdata s).done = s.done := rfl
@[simp] theorem sampleRdata_ok (s : State) : (sampleRdata s).ok = s.ok := rfl
@[simp] theorem sampleRdata_ign (s : State) : (sampleRdata s).ign = s.ign := rfl
@[simp] theorem sampleRdata_cause (s : State) : (sampleRdata s).cause = s.cause := rfl
@[simp] theorem sampleRdata_frame (s : State) : (sampleRdata s).frame = s.frame := rfl
@[simp] theorem sampleRdata_repeatsM1 (s : State) : (sampleRdata s).repeatsM1 = s.repeatsM1 := rfl
@[simp] theorem sampleRdata_rdata (s : State) : (sampleRdata s).rdata = s.hRdata := rfl
@[simp] theorem sampleRdata_pending (s : State) : (sampleRdata s).pending = s.pending := rfl
@[simp] theorem sampleRdata_cycle (s : State) : (sampleRdata s).cycle = s.cycle := rfl

/-! ### `nextInput` -/

@[simp] theorem nextInput_cfg (s : State) : (nextInput s).cfg = s.cfg := rfl
@[simp] theorem nextInput_st (s : State) : (nextInput s).st = s.st := rfl
@[simp] theorem nextInput_warm (s : State) : (nextInput s).warm = s.warm := rfl
@[simp] theorem nextInput_tail (s : State) : (nextInput s).tail = s.tail := rfl
@[simp] theorem nextInput_rep (s : State) : (nextInput s).rep = s.rep := rfl
@[simp] theorem nextInput_byteIdx (s : State) : (nextInput s).byteIdx = s.byteIdx := rfl
@[simp] theorem nextInput_bitIdx (s : State) : (nextInput s).bitIdx = s.bitIdx := rfl
@[simp] theorem nextInput_rxShift (s : State) : (nextInput s).rxShift = s.rxShift := rfl
@[simp] theorem nextInput_tRef (s : State) : (nextInput s).tRef = s.tRef := rfl
@[simp] theorem nextInput_now (s : State) : (nextInput s).now = s.now := rfl
@[simp] theorem nextInput_sync1 (s : State) : (nextInput s).sync1 = s.sync1 := rfl
@[simp] theorem nextInput_sync2 (s : State) : (nextInput s).sync2 = s.sync2 := rfl
@[simp] theorem nextInput_inDb (s : State) : (nextInput s).inDb = s.inDb := rfl
@[simp] theorem nextInput_dbCnt (s : State) : (nextInput s).dbCnt = s.dbCnt := rfl
@[simp] theorem nextInput_prevAsserted (s : State) : (nextInput s).prevAsserted = s.prevAsserted := rfl
@[simp] theorem nextInput_idleRun (s : State) : (nextInput s).idleRun = s.idleRun := rfl
@[simp] theorem nextInput_outQ (s : State) : (nextInput s).outQ = s.outQ := rfl
@[simp] theorem nextInput_oeQ (s : State) : (nextInput s).oeQ = s.oeQ := rfl
@[simp] theorem nextInput_done (s : State) : (nextInput s).done = s.done := rfl
@[simp] theorem nextInput_ok (s : State) : (nextInput s).ok = s.ok := rfl
@[simp] theorem nextInput_ign (s : State) : (nextInput s).ign = s.ign := rfl
@[simp] theorem nextInput_cause (s : State) : (nextInput s).cause = s.cause := rfl
@[simp] theorem nextInput_frame (s : State) : (nextInput s).frame = s.frame := rfl
@[simp] theorem nextInput_repeatsM1 (s : State) : (nextInput s).repeatsM1 = s.repeatsM1 := rfl
@[simp] theorem nextInput_rdata (s : State) : (nextInput s).rdata = s.rdata := rfl
@[simp] theorem nextInput_pending (s : State) : (nextInput s).pending = s.pending.tail := rfl
@[simp] theorem nextInput_cycle (s : State) : (nextInput s).cycle = s.cycle + 1 := rfl

/-! ### `withInput` -/

@[simp] theorem withInput_cfg (s : State) (j : Input) : (s.withInput j).cfg = s.cfg := rfl
@[simp] theorem withInput_st (s : State) (j : Input) : (s.withInput j).st = s.st := rfl
@[simp] theorem withInput_warm (s : State) (j : Input) : (s.withInput j).warm = s.warm := rfl
@[simp] theorem withInput_tail (s : State) (j : Input) : (s.withInput j).tail = s.tail := rfl
@[simp] theorem withInput_rep (s : State) (j : Input) : (s.withInput j).rep = s.rep := rfl
@[simp] theorem withInput_byteIdx (s : State) (j : Input) : (s.withInput j).byteIdx = s.byteIdx := rfl
@[simp] theorem withInput_bitIdx (s : State) (j : Input) : (s.withInput j).bitIdx = s.bitIdx := rfl
@[simp] theorem withInput_rxShift (s : State) (j : Input) : (s.withInput j).rxShift = s.rxShift := rfl
@[simp] theorem withInput_tRef (s : State) (j : Input) : (s.withInput j).tRef = s.tRef := rfl
@[simp] theorem withInput_now (s : State) (j : Input) : (s.withInput j).now = s.now := rfl
@[simp] theorem withInput_sync1 (s : State) (j : Input) : (s.withInput j).sync1 = s.sync1 := rfl
@[simp] theorem withInput_sync2 (s : State) (j : Input) : (s.withInput j).sync2 = s.sync2 := rfl
@[simp] theorem withInput_inDb (s : State) (j : Input) : (s.withInput j).inDb = s.inDb := rfl
@[simp] theorem withInput_dbCnt (s : State) (j : Input) : (s.withInput j).dbCnt = s.dbCnt := rfl
@[simp] theorem withInput_prevAsserted (s : State) (j : Input) : (s.withInput j).prevAsserted = s.prevAsserted := rfl
@[simp] theorem withInput_idleRun (s : State) (j : Input) : (s.withInput j).idleRun = s.idleRun := rfl
@[simp] theorem withInput_outQ (s : State) (j : Input) : (s.withInput j).outQ = s.outQ := rfl
@[simp] theorem withInput_oeQ (s : State) (j : Input) : (s.withInput j).oeQ = s.oeQ := rfl
@[simp] theorem withInput_done (s : State) (j : Input) : (s.withInput j).done = s.done := rfl
@[simp] theorem withInput_ok (s : State) (j : Input) : (s.withInput j).ok = s.ok := rfl
@[simp] theorem withInput_ign (s : State) (j : Input) : (s.withInput j).ign = s.ign := rfl
@[simp] theorem withInput_cause (s : State) (j : Input) : (s.withInput j).cause = s.cause := rfl
@[simp] theorem withInput_frame (s : State) (j : Input) : (s.withInput j).frame = s.frame := rfl
@[simp] theorem withInput_repeatsM1 (s : State) (j : Input) : (s.withInput j).repeatsM1 = s.repeatsM1 := rfl
@[simp] theorem withInput_rdata (s : State) (j : Input) : (s.withInput j).rdata = s.rdata := rfl
@[simp] theorem withInput_pending (s : State) (j : Input) : (s.withInput j).pending = j :: s.pending.tail := rfl
@[simp] theorem withInput_cycle (s : State) (j : Input) : (s.withInput j).cycle = s.cycle := rfl

/-! ### `readEffect` -/

@[simp] theorem readEffect_cfg (s : State) (v : Byte) : (readEffect v s).cfg = s.cfg := rfl
@[simp] theorem readEffect_st (s : State) (v : Byte) : (readEffect v s).st = s.st := rfl
@[simp] theorem readEffect_warm (s : State) (v : Byte) : (readEffect v s).warm = s.warm := rfl
@[simp] theorem readEffect_tail (s : State) (v : Byte) : (readEffect v s).tail = s.tail := rfl
@[simp] theorem readEffect_rep (s : State) (v : Byte) : (readEffect v s).rep = s.rep := rfl
@[simp] theorem readEffect_byteIdx (s : State) (v : Byte) : (readEffect v s).byteIdx = s.byteIdx := rfl
@[simp] theorem readEffect_bitIdx (s : State) (v : Byte) : (readEffect v s).bitIdx = s.bitIdx := rfl
@[simp] theorem readEffect_rxShift (s : State) (v : Byte) : (readEffect v s).rxShift = s.rxShift := rfl
@[simp] theorem readEffect_tRef (s : State) (v : Byte) : (readEffect v s).tRef = s.tRef := rfl
@[simp] theorem readEffect_now (s : State) (v : Byte) : (readEffect v s).now = s.now := rfl
@[simp] theorem readEffect_sync1 (s : State) (v : Byte) : (readEffect v s).sync1 = s.sync1 := rfl
@[simp] theorem readEffect_sync2 (s : State) (v : Byte) : (readEffect v s).sync2 = s.sync2 := rfl
@[simp] theorem readEffect_inDb (s : State) (v : Byte) : (readEffect v s).inDb = s.inDb := rfl
@[simp] theorem readEffect_dbCnt (s : State) (v : Byte) : (readEffect v s).dbCnt = s.dbCnt := rfl
@[simp] theorem readEffect_prevAsserted (s : State) (v : Byte) : (readEffect v s).prevAsserted = s.prevAsserted := rfl
@[simp] theorem readEffect_idleRun (s : State) (v : Byte) : (readEffect v s).idleRun = s.idleRun := rfl
@[simp] theorem readEffect_outQ (s : State) (v : Byte) : (readEffect v s).outQ = s.outQ := rfl
@[simp] theorem readEffect_oeQ (s : State) (v : Byte) : (readEffect v s).oeQ = s.oeQ := rfl
@[simp] theorem readEffect_done (s : State) (v : Byte) : (readEffect v s).done = s.done := rfl
@[simp] theorem readEffect_ok (s : State) (v : Byte) : (readEffect v s).ok = s.ok := rfl
@[simp] theorem readEffect_ign (s : State) (v : Byte) : (readEffect v s).ign = s.ign := rfl
@[simp] theorem readEffect_cause (s : State) (v : Byte) : (readEffect v s).cause = s.cause := rfl
@[simp] theorem readEffect_frame (s : State) (v : Byte) : (readEffect v s).frame = s.frame := rfl
@[simp] theorem readEffect_repeatsM1 (s : State) (v : Byte) : (readEffect v s).repeatsM1 = s.repeatsM1 := rfl
@[simp] theorem readEffect_rdata (s : State) (v : Byte) : (readEffect v s).rdata = v := rfl
@[simp] theorem readEffect_pending (s : State) (v : Byte) : (readEffect v s).pending = s.pending := rfl
@[simp] theorem readEffect_cycle (s : State) (v : Byte) : (readEffect v s).cycle = s.cycle := rfl

/-! ### `fail` -/

@[simp] theorem fail_cfg (s : State) (c : Cause) : (fail c s).cfg = s.cfg := rfl
@[simp] theorem fail_st (s : State) (c : Cause) : (fail c s).st = .desyncFailure := rfl
@[simp] theorem fail_warm (s : State) (c : Cause) : (fail c s).warm = s.warm := rfl
@[simp] theorem fail_tail (s : State) (c : Cause) : (fail c s).tail = false := rfl
@[simp] theorem fail_rep (s : State) (c : Cause) : (fail c s).rep = s.rep := rfl
@[simp] theorem fail_byteIdx (s : State) (c : Cause) : (fail c s).byteIdx = s.byteIdx := rfl
@[simp] theorem fail_bitIdx (s : State) (c : Cause) : (fail c s).bitIdx = s.bitIdx := rfl
@[simp] theorem fail_rxShift (s : State) (c : Cause) : (fail c s).rxShift = s.rxShift := rfl
@[simp] theorem fail_tRef (s : State) (c : Cause) : (fail c s).tRef = s.tRef := rfl
@[simp] theorem fail_now (s : State) (c : Cause) : (fail c s).now = s.now := rfl
@[simp] theorem fail_sync1 (s : State) (c : Cause) : (fail c s).sync1 = s.sync1 := rfl
@[simp] theorem fail_sync2 (s : State) (c : Cause) : (fail c s).sync2 = s.sync2 := rfl
@[simp] theorem fail_inDb (s : State) (c : Cause) : (fail c s).inDb = s.inDb := rfl
@[simp] theorem fail_dbCnt (s : State) (c : Cause) : (fail c s).dbCnt = s.dbCnt := rfl
@[simp] theorem fail_prevAsserted (s : State) (c : Cause) : (fail c s).prevAsserted = s.prevAsserted := rfl
@[simp] theorem fail_idleRun (s : State) (c : Cause) : (fail c s).idleRun = s.idleRun := rfl
@[simp] theorem fail_outQ (s : State) (c : Cause) : (fail c s).outQ = s.cfg.outIdle := rfl
@[simp] theorem fail_oeQ (s : State) (c : Cause) : (fail c s).oeQ = s.oeQ := rfl
@[simp] theorem fail_done (s : State) (c : Cause) : (fail c s).done = true := rfl
@[simp] theorem fail_ok (s : State) (c : Cause) : (fail c s).ok = false := rfl
@[simp] theorem fail_ign (s : State) (c : Cause) : (fail c s).ign = s.ign := rfl
@[simp] theorem fail_cause (s : State) (c : Cause) : (fail c s).cause = c := rfl
@[simp] theorem fail_frame (s : State) (c : Cause) : (fail c s).frame = s.frame := rfl
@[simp] theorem fail_repeatsM1 (s : State) (c : Cause) : (fail c s).repeatsM1 = s.repeatsM1 := rfl
@[simp] theorem fail_rdata (s : State) (c : Cause) : (fail c s).rdata = s.rdata := rfl
@[simp] theorem fail_pending (s : State) (c : Cause) : (fail c s).pending = s.pending := rfl
@[simp] theorem fail_cycle (s : State) (c : Cause) : (fail c s).cycle = s.cycle := rfl

/-! ### `raiseNotReady` -/

@[simp] theorem raiseNotReady_cfg (s : State) : (raiseNotReady s).cfg = s.cfg := rfl
@[simp] theorem raiseNotReady_st (s : State) : (raiseNotReady s).st = s.st := rfl
@[simp] theorem raiseNotReady_warm (s : State) : (raiseNotReady s).warm = s.warm := rfl
@[simp] theorem raiseNotReady_tail (s : State) : (raiseNotReady s).tail = s.tail := rfl
@[simp] theorem raiseNotReady_rep (s : State) : (raiseNotReady s).rep = s.rep := rfl
@[simp] theorem raiseNotReady_byteIdx (s : State) : (raiseNotReady s).byteIdx = s.byteIdx := rfl
@[simp] theorem raiseNotReady_bitIdx (s : State) : (raiseNotReady s).bitIdx = s.bitIdx := rfl
@[simp] theorem raiseNotReady_rxShift (s : State) : (raiseNotReady s).rxShift = s.rxShift := rfl
@[simp] theorem raiseNotReady_tRef (s : State) : (raiseNotReady s).tRef = s.tRef := rfl
@[simp] theorem raiseNotReady_now (s : State) : (raiseNotReady s).now = s.now := rfl
@[simp] theorem raiseNotReady_sync1 (s : State) : (raiseNotReady s).sync1 = s.sync1 := rfl
@[simp] theorem raiseNotReady_sync2 (s : State) : (raiseNotReady s).sync2 = s.sync2 := rfl
@[simp] theorem raiseNotReady_inDb (s : State) : (raiseNotReady s).inDb = s.inDb := rfl
@[simp] theorem raiseNotReady_dbCnt (s : State) : (raiseNotReady s).dbCnt = s.dbCnt := rfl
@[simp] theorem raiseNotReady_prevAsserted (s : State) : (raiseNotReady s).prevAsserted = s.prevAsserted := rfl
@[simp] theorem raiseNotReady_idleRun (s : State) : (raiseNotReady s).idleRun = s.idleRun := rfl
@[simp] theorem raiseNotReady_outQ (s : State) : (raiseNotReady s).outQ = s.outQ := rfl
@[simp] theorem raiseNotReady_oeQ (s : State) : (raiseNotReady s).oeQ = s.oeQ := rfl
@[simp] theorem raiseNotReady_done (s : State) : (raiseNotReady s).done = true := rfl
@[simp] theorem raiseNotReady_ok (s : State) : (raiseNotReady s).ok = false := rfl
@[simp] theorem raiseNotReady_ign (s : State) : (raiseNotReady s).ign = s.ign := rfl
@[simp] theorem raiseNotReady_cause (s : State) : (raiseNotReady s).cause = .notReady := rfl
@[simp] theorem raiseNotReady_frame (s : State) : (raiseNotReady s).frame = s.frame := rfl
@[simp] theorem raiseNotReady_repeatsM1 (s : State) : (raiseNotReady s).repeatsM1 = s.repeatsM1 := rfl
@[simp] theorem raiseNotReady_rdata (s : State) : (raiseNotReady s).rdata = s.rdata := rfl
@[simp] theorem raiseNotReady_pending (s : State) : (raiseNotReady s).pending = s.pending := rfl
@[simp] theorem raiseNotReady_cycle (s : State) : (raiseNotReady s).cycle = s.cycle := rfl

/-! ### The current input -/

@[simp] theorem input_withInput (s : State) (j : Input) : (s.withInput j).input = j := rfl

/-- The current input depends on the decided inputs and the cycle number alone. -/
theorem input_congr (s t : State) (hp : s.pending = t.pending) (hc : s.cycle = t.cycle) : s.input = t.input := by
  simp [State.input, hp, hc]

/-! ### The frame buffer -/

/-- A read after a write of the frame buffer: the byte written there, every other byte as before. -/
theorem frameByte_setFrame (s : State) (i j : Index) (b : Byte) :
    (s.setFrame i b).frameByte j = if j = i then b else s.frameByte j := by
  simp only [State.frameByte, setFrame_frame, Vector.getElem_set]
  by_cases h : j = i
  · simp [h]
  · have : i.toNat ≠ j.toNat := fun e => h (BitVec.eq_of_toNat_eq e.symm)
    simp [h, this]

@[simp] theorem frameByte_setFrame_same (s : State) (i : Index) (b : Byte) : (s.setFrame i b).frameByte i = b := by
  simp [frameByte_setFrame]

/-! ### The bits of a byte -/

/-- A bit of a byte after one bit was replaced: the new bit there, every other bit as before. -/
theorem bitOf_setBit (b : Byte) (j k : Index) (v : Bool) :
    bitOf (setBit b j v) k = if k = j then v else bitOf b k := by
  have hk : k.toNat < 8 := k.isLt
  by_cases h : k = j
  · subst h
    cases v <;> simp [bitOf, setBit, hk]
  · have : k.toNat ≠ j.toNat := fun e => h (BitVec.eq_of_toNat_eq e)
    cases v <;> simp [bitOf, setBit, h, hk, this]

/-! ### Elapsed time -/

theorem modulus_pos (p : Config) : 0 < p.modulus := Nat.two_pow_pos p.tw

theorem subM_lt (p : Config) (a b : Nat) : p.subM a b < p.modulus := Nat.mod_lt _ (modulus_pos p)

theorem elapsed_lt (s : State) : s.elapsed < s.cfg.modulus := subM_lt _ _ _

/-- One cycle later, the elapsed time is one more, modulo `2^TW`. -/
theorem subM_tick (p : Config) (a b : Nat) : p.subM (p.addM a 1) b = (p.subM a b + 1) % p.modulus := by
  simp only [Config.subM, Config.addM, Nat.mod_add_mod]
  congr 1
  omega

/-- One cycle after a reference was set to now, one cycle has elapsed. -/
theorem subM_self_tick (p : Config) (a : Nat) (h : 2 ≤ p.modulus) : p.subM (p.addM a 1) a = 1 := by
  have hlt : a % p.modulus < p.modulus := Nat.mod_lt _ (modulus_pos p)
  rw [subM_tick]
  have h0 : p.subM a a = 0 := by
    simp only [Config.subM]
    have : a + (p.modulus - a % p.modulus) = p.modulus * (a / p.modulus + 1) := by
      have := Nat.div_add_mod a p.modulus
      rw [Nat.mul_add]
      omega
    rw [this, Nat.mul_mod_right]
  rw [h0, Nat.mod_eq_of_lt (by omega)]

end Sys2Proof.Laws
end

