-- ==== Sys2Proof/Laws/Decode.lean ====
section
/-! SUPPORT. How the step's two decoders pick an instruction: from the host word on the port, and from the state bits of
the selector. -/

namespace Sys2Proof.Laws

open Sys2Proof.Machine

/-- The bytes of a host word decode as the word does. -/
theorem decode_hostBytes (w : HostWord) : decode (hostBytes w) = .ok (decodeHost w) := by
  have hlt : (0#3 ++ w.extractLsb' 8 5 : Byte).toNat < 32 := by
    simp only [BitVec.toNat_append, BitVec.toNat_ofNat]
    have := (w.extractLsb' 8 5).isLt
    simpa using this
  have hw : ((0#3 ++ w.extractLsb' 8 5 : Byte).extractLsb' 0 5 ++ w.extractLsb' 0 8 : HostWord) = w := by
    apply BitVec.eq_of_getLsbD_eq
    intro i hi
    simp only [BitVec.getLsbD_append, BitVec.getLsbD_extractLsb']
    by_cases h : i < 8
    · simp [h]
    · have h5 : i - 8 < 5 := by omega
      have e : 8 + (i - 8) = i := by omega
      simp [h, h5, e]
  simp only [hostBytes, decode, if_pos hlt]
  exact congrArg (fun x => Except.ok (decodeHost x)) hw

/-- A host word decodes by its three fields. -/
theorem decodeHost_word (we : Bool) (a : Addr) (d : Byte) :
    decodeHost (BitVec.ofBool we ++ a ++ d) = if we then decodeWrite a d else decodeRead a d := by
  have h1 : (BitVec.ofBool we ++ a ++ d : HostWord).getLsbD 12 = we := by
    simp only [BitVec.getLsbD_append]; cases we <;> rfl
  have h2 : (BitVec.ofBool we ++ a ++ d : HostWord).extractLsb' 8 4 = a := by
    apply BitVec.eq_of_getLsbD_eq
    intro i hi
    have e : ¬ 8 + i < 8 := by omega
    simp only [BitVec.getLsbD_extractLsb', BitVec.getLsbD_append, hi, e, decide_true, Bool.true_and, if_true, if_false,
      Nat.add_sub_cancel_left]
  have h3 : (BitVec.ofBool we ++ a ++ d : HostWord).extractLsb' 0 8 = d := by
    apply BitVec.eq_of_getLsbD_eq
    intro i hi
    simp only [BitVec.getLsbD_extractLsb', BitVec.getLsbD_append, Nat.zero_add, hi, decide_true, Bool.true_and, if_true]
  simp only [decodeHost, h1, h2, h3]

/-- A host word written out as its three fields decodes by them. -/
theorem decodeHost_fields (we : BitVec 1) (a : Addr) (d : Byte) :
    decodeHost (we ++ a ++ d) = if we.getLsbD 0 then decodeWrite a d else decodeRead a d := by
  have h : we = BitVec.ofBool (we.getLsbD 0) := by revert we; decide
  conv_lhs => rw [h, decodeHost_word]

/-- A host word is its three fields. -/
theorem hostWord_split (w : HostWord) :
    w = BitVec.ofBool (w.getLsbD 12) ++ w.extractLsb' 8 4 ++ w.extractLsb' 0 8 := by
  apply BitVec.eq_of_getLsbD_eq
  intro i hi
  simp only [BitVec.getLsbD_append, BitVec.getLsbD_extractLsb', BitVec.getLsbD_ofBool, Nat.zero_add]
  by_cases h : i < 8
  · simp [h]
  · by_cases h2 : i < 12
    · have e : 8 + (i - 8) = i := by omega
      have h4 : i - 8 < 4 := by omega
      simp [h, h4, e]
    · have e : i = 12 := by omega
      subst e; simp

/-- The byte of a selector decodes as the selector does. -/
theorem decode_selectorBytes (w : Selector) : decode (selectorBytes w) = .ok (decodeSelector w) := by
  revert w
  decide

/-- The transaction of a cycle runs the instruction its word encodes. -/
theorem runWord_host (w : HostWord) (s : State) : runWord (hostBytes w) s = exec (decodeHost w) s := by
  simp [runWord, decode_hostBytes]

/-- The FSM runs the micro-operation its selector encodes. -/
theorem fsmPhase_eq (w : Selector) (s : State) : fsmPhase w s = exec (decodeSelector w) s := by
  simp [fsmPhase, runWord, decode_selectorBytes]

/-- Which micro-operation the selector of a state picks, up to the bits it ignores (30_encoding.md R102). -/
theorem decodeSelector_selector (s : State) :
    match s.st with
    | .unconfigured => ∃ x, decodeSelector s.selector = .holdUnconfigured x
    | .idle => ∃ x, decodeSelector s.selector = .holdIdle x
    | .awaitStart =>
      if s.warm then ∃ x, decodeSelector s.selector = .waitNextStart x
      else ∃ x, decodeSelector s.selector = .waitForStartBit x
    | .startConfirmed => ∃ x, decodeSelector s.selector = .waitStartBitComplete x
    | .transmitByte =>
      if s.txbit then ∃ x, decodeSelector s.selector = .transmitOne x
      else ∃ x, decodeSelector s.selector = .transmitZero x
    | .receiveByte =>
      if s.tail then ∃ u v, decodeSelector s.selector = .byteComplete u v
      else ∃ u v, decodeSelector s.selector = .receiveBit u v
    | .success => ∃ x, decodeSelector s.selector = .holdSuccess x
    | .desyncFailure => ∃ x, decodeSelector s.selector = .holdDesync x := by
  unfold State.selector
  generalize s.txbit = t
  cases s.st <;> cases s.warm <;> cases s.tail <;> cases t <;> decide

end Sys2Proof.Laws
end

