-- ==== Sys2Proof/Laws/Ops.lean ====
section
/-! SUPPORT. What each shared operation can do, said once: the refusal of an illegal parameter set, the write gate, the
deadline wait, the micro-operations built on it, the host's writes and the background operations. -/

namespace Sys2Proof.Laws

open Sys2Proof.Machine

/-! ### Outcomes -/

theorem structural_iff (p : Config) : p.structural = true ↔ p.Structural := decide_eq_true_iff

theorem elaborated_of_structural (s t : State) (h : s.cfg.structural = true) : elaborated s t = .next t := if_pos h

theorem elaborated_of_not_structural (s t : State) (h : s.cfg.structural = false) :
    elaborated s t = .refused .illegalParameters := by simp [elaborated, h]

/-- A meaning answers a next state exactly where the parameters are admitted. -/
theorem elaborated_eq_next (s t u : State) : elaborated s t = .next u ↔ s.cfg.structural = true ∧ t = u := by
  cases h : s.cfg.structural <;> simp [elaborated, h]

@[simp] theorem andThen_next (s : State) (f : State → Result) : andThen (.next s) f = f s := rfl

/-! ### The write gate -/

theorem gated_busy (s t : State) (h : s.busy = true) : gated s t = { s with ign := true } := if_pos h

theorem gated_ready (s t : State) (h : s.busy = false) : gated s t = t := by simp [gated, h]

/-! ### The deadline wait -/

theorem deadline_early (s t : State) (d : Nat) (h : s.elapsed < d) : deadline s d t = s := if_pos h

theorem deadline_met (s t : State) (d : Nat) (h : s.elapsed = d) : deadline s d t = t := by simp [deadline, h]

theorem deadline_late (s t : State) (d : Nat) (h : d < s.elapsed) : deadline s d t = raiseTimingViolation s := by
  have h1 : ¬ s.elapsed < d := by omega
  have h2 : s.elapsed ≠ d := by omega
  simp [deadline, h1, h2]

/-- The three things a deadline wait can do in one cycle. -/
theorem deadline_cases (s t : State) (d : Nat) :
    (s.elapsed < d ∧ deadline s d t = s) ∨ (s.elapsed = d ∧ deadline s d t = t)
      ∨ (d < s.elapsed ∧ deadline s d t = raiseTimingViolation s) := by
  rcases Nat.lt_trichotomy s.elapsed d with h | h | h
  · exact .inl ⟨h, deadline_early s t d h⟩
  · exact .inr (.inl ⟨h, deadline_met s t d h⟩)
  · exact .inr (.inr ⟨h, deadline_late s t d h⟩)

/-- A deadline wait in the order of 42_transceiver.md R181. -/
theorem deadline_eq_ite (s t : State) (d : Nat) :
    deadline s d t = if s.elapsed = d then t else if d < s.elapsed then raiseTimingViolation s else s := by
  rcases deadline_cases s t d with ⟨h, e⟩ | ⟨h, e⟩ | ⟨h, e⟩ <;> rw [e]
  · rw [if_neg (by omega), if_neg (by omega)]
  · rw [if_pos h]
  · rw [if_neg (by omega), if_pos h]

/-! ### The waits for a start edge -/

/-- The three things a wait for a start edge can do in one cycle (41_synchronizer.md R162). -/
theorem awaitBody_cases (bound : Nat) (s : State) :
    (s.startEdge = true ∧ awaitBody bound s = { s with tRef := s.now, st := .startConfirmed })
      ∨ (s.startEdge = false ∧ bound ≤ s.elapsed ∧ awaitBody bound s = raiseLinkTimeout s)
      ∨ (s.startEdge = false ∧ s.elapsed < bound ∧ awaitBody bound s = s) := by
  cases he : s.startEdge
  · by_cases h : bound ≤ s.elapsed
    · exact .inr (.inl ⟨rfl, h, by simp [awaitBody, he, h]⟩)
    · exact .inr (.inr ⟨rfl, by omega, by simp [awaitBody, he, h]⟩)
  · exact .inl ⟨rfl, by simp [awaitBody, he]⟩

/-! ### The actions at a deadline -/

theorem sampleAction_last (s : State) (h : s.bitIdx = 7) :
    sampleAction s =
      { s with rxShift := setBit s.rxShift s.bitIdx (s.cfg.bitof s.asserted), tail := true } := by
  simp [sampleAction, h]

theorem sampleAction_inner (s : State) (h : s.bitIdx ≠ 7) :
    sampleAction s =
      { s with
        rxShift := setBit s.rxShift s.bitIdx (s.cfg.bitof s.asserted)
        st := .transmitByte
        bitIdx := s.bitIdx + 1 } := by
  simp only [sampleAction, if_neg h]

theorem repeatDecision_last (s : State) (h : s.rep = s.repeatsM1) :
    repeatDecision s = { s with byteIdx := 0, bitIdx := 0, st := .success, done := true, ok := true } := by
  simp [repeatDecision, h]

theorem repeatDecision_more (s : State) (h : s.rep ≠ s.repeatsM1) :
    repeatDecision s =
      { s with byteIdx := 0, bitIdx := 0, rep := s.rep + 1, st := .awaitStart, warm := true, tRef := s.now } := by
  simp [repeatDecision, h]

theorem byteEndAction_inner (s : State) (h : s.byteIdx ≠ 7) :
    byteEndAction s = { releaseAndStore s with st := .transmitByte, byteIdx := s.byteIdx + 1, bitIdx := 0 } := by
  simp only [byteEndAction, if_neg h]

theorem byteEndAction_last (s : State) (h : s.byteIdx = 7) :
    byteEndAction s = repeatDecision (releaseAndStore s) := by
  simp [byteEndAction, h]

/-! ### The host's writes -/

/-- The three things LOOP can do (40_host_commands.md R122). -/
theorem loopEffect_cases (s : State) :
    (s.busy = true ∧ loopEffect s = { s with ign := true })
      ∨ ((s.st = .idle ∨ s.st = .success) ∧ loopEffect s = loopAccepted s)
      ∨ ((s.st = .unconfigured ∨ s.st = .desyncFailure) ∧ loopEffect s = raiseNotReady s) := by
  cases h : s.st <;> simp [loopEffect, gated, State.busy, FsmState.isBusy, h]

/-- A host write changes no register but ign while the block is busy (40_host_commands.md R120, R130). -/
theorem hostWrite_busy (a : Addr) (v : Byte) (s : State) (h : s.busy = true) :
    hostWrite a v s = s ∨ hostWrite a v s = { s with ign := true } := by
  unfold hostWrite
  split
  · split
    · exact .inr (gated_busy _ _ h)
    · split <;> exact .inr (gated_busy _ _ h)
  · split
    · exact .inr (gated_busy _ _ h)
    · split
      · exact .inr (gated_busy _ _ h)
      · exact .inl rfl

/-! ### The background operations -/

/-- The three things the debounce filter can do (41_synchronizer.md R152). -/
theorem debounceEffect_cases (s : State) :
    (s.sync2 = s.inDb ∧ debounceEffect s = { s with dbCnt := 0 })
      ∨ (s.sync2 ≠ s.inDb ∧ s.cfg.dbLen ≤ s.dbCnt + 1 ∧ debounceEffect s = { s with inDb := s.sync2, dbCnt := 0 })
      ∨ (s.sync2 ≠ s.inDb ∧ s.dbCnt + 1 < s.cfg.dbLen ∧ debounceEffect s = { s with dbCnt := s.dbCnt + 1 }) := by
  by_cases h : s.sync2 = s.inDb
  · exact .inl ⟨h, by simp [debounceEffect, h]⟩
  · by_cases h2 : s.cfg.dbLen ≤ s.dbCnt + 1
    · exact .inr (.inl ⟨h, h2, by simp [debounceEffect, h, h2]⟩)
    · exact .inr (.inr ⟨h, by omega, by simp [debounceEffect, h, h2]⟩)

end Sys2Proof.Laws
end

