-- ==== Sys2Proof/Laws/Step.lean ====
section
/-! SUPPORT. What the instructions that a cycle decodes do, in terms of the parts of the simultaneous cycle: a host
write is the write of its address, a host read shows the byte of its address, and the micro-operation the selector
picks is the FSM part. -/

namespace Sys2Proof.Laws

open Sys2Proof.Machine

/-- Every instruction refuses parameters that 00_scope.md R9 does not admit. -/
theorem exec_refused (i : Instr) (s : State) (h : s.cfg.structural = false) :
    exec i s = .refused .illegalParameters := by
  cases i <;> exact elaborated_of_not_structural _ _ h

/-- What a host write's instruction does. -/
theorem exec_decodeWrite (a : Addr) (v : Byte) (s : State) (h : s.cfg.structural = true) :
    exec (decodeWrite a v) s = .next (hostWrite a v s) := by
  have e : ∀ t, elaborated s t = .next t := fun t => elaborated_of_structural s t h
  unfold decodeWrite hostWrite
  split
  · split
    · exact e _
    · split <;> exact e _
  · split
    · next h1 => subst h1; exact e _
    · split
      · exact e _
      · split
        · next h3 => subst h3; exact e _
        · split <;> exact e _

/-- What a host read's instruction does. -/
theorem exec_decodeRead (a : Addr) (d : Byte) (s : State) (h : s.cfg.structural = true) :
    exec (decodeRead a d) s = .next (readEffect (s.hostRead a) s) := by
  have e : ∀ t, elaborated s t = .next t := fun t => elaborated_of_structural s t h
  unfold decodeRead State.hostRead
  split
  · next h0 => subst h0; exact e _
  · split
    · exact e _
    · split
      · exact e _
      · split
        · next h3 => subst h3; exact e _
        · split <;> exact e _

/-- What the micro-operation that a state's selector picks does to it. -/
theorem exec_selector (s : State) (h : s.cfg.structural = true) :
    exec (decodeSelector s.selector) s = .next (fsmPart s) := by
  have e : ∀ t, elaborated s t = .next t := fun t => elaborated_of_structural s t h
  have hd := decodeSelector_selector s
  have go : ∀ i, decodeSelector s.selector = i → exec i s = elaborated s (fsmPart s) →
      exec (decodeSelector s.selector) s = .next (fsmPart s) := fun i hi he => by rw [hi, he]; exact e _
  unfold fsmPart at go ⊢
  cases hst : s.st <;> simp only [hst] at hd go ⊢
  case awaitStart =>
    cases hw : s.warm <;> simp only [hw, Bool.false_eq_true, if_false, if_true] at hd go ⊢ <;> obtain ⟨x, hx⟩ := hd <;> exact go _ hx rfl
  case transmitByte =>
    cases hw : s.txbit <;> simp only [hw, Bool.false_eq_true, if_false, if_true] at hd go ⊢ <;> obtain ⟨x, hx⟩ := hd <;> exact go _ hx rfl
  case receiveByte =>
    cases hw : s.tail <;> simp only [hw, Bool.false_eq_true, if_false, if_true] at hd go ⊢ <;> obtain ⟨x, y, hx⟩ := hd <;> exact go _ hx rfl
  all_goals obtain ⟨x, hx⟩ := hd; exact go _ hx rfl

/-- The FSM does nothing while the block is not busy (42_transceiver.md R195 to R198). -/
theorem fsmPart_ready (s : State) (h : s.busy = false) : fsmPart s = s := by
  unfold fsmPart
  cases hst : s.st <;> simp_all [State.busy, FsmState.isBusy]

/-- A micro-operation that the selector of a state that is not busy picks changes nothing, in any state. -/
theorem exec_hold (s t : State) (h : s.busy = false) (ht : t.cfg.structural = true) :
    exec (decodeSelector s.selector) t = .next t := by
  have hd := decodeSelector_selector s
  cases hst : s.st <;> simp only [hst] at hd <;> first
    | (obtain ⟨x, hx⟩ := hd; rw [hx]; exact elaborated_of_structural t t ht)
    | simp [State.busy, FsmState.isBusy, hst] at h

end Sys2Proof.Laws
end

