-- ==== Sys2Proof/Laws/Cycle.lean ====
section
/-! SUPPORT. The parts of a cycle: what the host part and the FSM never write, that neither reads what the other writes
in the cycles in which both act, and that the background operations in sequence write what they write at once. -/

namespace Sys2Proof.Laws

open Sys2Proof.Machine

/-- The state with another read value and another IGN. -/
def withRead (r : Byte) (g : Bool) (s : State) : State := { s with rdata := r, ign := g }

theorem withRead_elapsed (r : Byte) (g : Bool) (s : State) : (withRead r g s).elapsed = s.elapsed := rfl

theorem deadline_withRead (r : Byte) (g : Bool) (s t : State) (d : Nat) :
    deadline (withRead r g s) d (withRead r g t) = withRead r g (deadline s d t) := by
  unfold deadline
  rw [withRead_elapsed]
  split
  · rfl
  · split <;> rfl

theorem awaitBody_withRead (r : Byte) (g : Bool) (s : State) (b : Nat) :
    awaitBody b (withRead r g s) = withRead r g (awaitBody b s) := by
  unfold awaitBody
  rw [withRead_elapsed, show (withRead r g s).startEdge = s.startEdge from rfl]
  split
  · rfl
  · split <;> rfl

theorem sampleAction_withRead (r : Byte) (g : Bool) (s : State) :
    sampleAction (withRead r g s) = withRead r g (sampleAction s) := by
  unfold sampleAction
  simp only [show (withRead r g s).bitIdx = s.bitIdx from rfl]
  split <;> rfl

theorem repeatDecision_withRead (r : Byte) (g : Bool) (s : State) :
    repeatDecision (withRead r g s) = withRead r g (repeatDecision s) := by
  unfold repeatDecision
  simp only [show (withRead r g s).rep = s.rep from rfl, show (withRead r g s).repeatsM1 = s.repeatsM1 from rfl]
  split <;> rfl

theorem byteEndAction_withRead (r : Byte) (g : Bool) (s : State) :
    byteEndAction (withRead r g s) = withRead r g (byteEndAction s) := by
  unfold byteEndAction
  simp only [show (withRead r g s).byteIdx = s.byteIdx from rfl]
  split
  · exact repeatDecision_withRead r g (releaseAndStore s)
  · rfl

/-- The FSM neither reads nor writes the read value and IGN. -/
theorem fsmPart_withRead (r : Byte) (g : Bool) (s : State) :
    fsmPart (withRead r g s) = withRead r g (fsmPart s) := by
  unfold fsmPart
  simp only [show (withRead r g s).st = s.st from rfl, show (withRead r g s).tail = s.tail from rfl,
    show (withRead r g s).cfg = s.cfg from rfl, show (withRead r g s).warm = s.warm from rfl]
  cases s.st <;> try rfl
  · exact awaitBody_withRead r g s _
  · exact deadline_withRead r g s (windowEnd s) _
  · exact deadline_withRead r g s (driveAction s.txbit s) _
  · simp only
    split
    · unfold byteEndBody; rw [byteEndAction_withRead]; exact deadline_withRead r g s _ _
    · unfold sampleBody; rw [sampleAction_withRead]; exact deadline_withRead r g s _ _

theorem hostWrite_sampleRdata (a : Addr) (v : Byte) (s : State) :
    hostWrite a v (sampleRdata s) = { hostWrite a v s with rdata := s.hRdata } := by
  unfold hostWrite beginEffect loopEffect ctrlNopEffect configEffect frameEffect gated
  simp only [show (sampleRdata s).busy = s.busy from rfl, show (sampleRdata s).st = s.st from rfl]
  (repeat' split) <;> rfl

/-- The host's transaction of a cycle. -/
theorem hostPhase_eq (s : State) (h : s.cfg.structural = true) :
    hostPhase (sampleRdata s) = .next { hostPart s with rdata := s.hRdata } := by
  unfold hostPhase hostPart
  rw [show (sampleRdata s).input = s.input from rfl]
  cases hs : s.input.hSel
  · rfl
  · simp only [if_true, runWord_host, Input.hostWord, decodeHost_word]
    cases hw : s.input.hWe
    · simp only [Bool.false_eq_true, if_false, Bool.and_false]
      rw [exec_decodeRead _ _ _ (by exact h)]
      rfl
    · simp only [if_true, Bool.and_true]
      rw [exec_decodeWrite _ _ _ (by exact h), hostWrite_sampleRdata]

/-- What the FSM never writes. -/
theorem fsmPart_frame (s : State) :
    fsmPart s = { fsmPart s with
      cfg := s.cfg, now := s.now, sync1 := s.sync1, sync2 := s.sync2, inDb := s.inDb, dbCnt := s.dbCnt
      prevAsserted := s.prevAsserted, idleRun := s.idleRun, pending := s.pending, cycle := s.cycle, ign := s.ign
      rdata := s.rdata, repeatsM1 := s.repeatsM1, oeQ := s.oeQ } := by
  unfold fsmPart awaitBody windowBody driveBody byteEndBody sampleBody deadline sampleAction byteEndAction
    repeatDecision
  cases s.st <;> simp only
  all_goals (repeat' split) <;> rfl

/-- What the host part never writes. -/
theorem hostPart_frame (s : State) :
    hostPart s = { hostPart s with
      cfg := s.cfg, rep := (hostPart s).rep, now := s.now, sync1 := s.sync1, sync2 := s.sync2, inDb := s.inDb
      dbCnt := s.dbCnt, prevAsserted := s.prevAsserted, idleRun := s.idleRun, rxShift := s.rxShift
      pending := s.pending, cycle := s.cycle, rdata := s.rdata } := by
  unfold hostPart hostWrite beginEffect loopEffect ctrlNopEffect configEffect frameEffect gated
  (repeat' split) <;> rfl

/-- While busy the host part writes IGN alone (40_host_commands.md R120). -/
theorem hostPart_busy (s : State) (h : s.busy = true) : hostPart s = { s with ign := (hostPart s).ign } := by
  unfold hostPart
  split
  · rcases hostWrite_busy s.input.hAddr s.input.hWdata s h with e | e <;> rw [e]
  · rfl

theorem debounceEffect_frame (s : State) :
    debounceEffect s = { s with inDb := (debounceEffect s).inDb, dbCnt := (debounceEffect s).dbCnt } := by
  unfold debounceEffect
  (repeat' split) <;> rfl

/-- The registers that the background operations read. -/
structure SameBackground (u s : State) : Prop where
  cfg : u.cfg = s.cfg
  now : u.now = s.now
  sync1 : u.sync1 = s.sync1
  sync2 : u.sync2 = s.sync2
  inDb : u.inDb = s.inDb
  dbCnt : u.dbCnt = s.dbCnt
  idleRun : u.idleRun = s.idleRun
  input : u.input = s.input

theorem debounceEffect_congr {u s : State} (h : SameBackground u s) :
    (debounceEffect u).inDb = (debounceEffect s).inDb ∧ (debounceEffect u).dbCnt = (debounceEffect s).dbCnt := by
  rcases debounceEffect_cases s with ⟨h1, e⟩ | ⟨h1, h2, e⟩ | ⟨h1, h2, e⟩ <;> rw [e] <;>
    rcases debounceEffect_cases u with ⟨g1, e⟩ | ⟨g1, g2, e⟩ | ⟨g1, g2, e⟩ <;> rw [e] <;>
    simp_all [h.cfg, h.sync2, h.inDb, h.dbCnt] <;> omega

theorem backgroundPart_congr {u s : State} (h : SameBackground u s) (t : State) :
    backgroundPart u t = backgroundPart s t := by
  unfold backgroundPart timestampEffect inputSyncEffect edgeQualifyEffect State.asserted
  simp only [(debounceEffect_congr h).1, (debounceEffect_congr h).2, h.cfg, h.now, h.sync1, h.inDb, h.idleRun, h.input]

/-- The four background operations in sequence make the writes of part (1). -/
theorem backgroundPhase_eq (u : State) (h : u.cfg.structural = true) :
    backgroundPhase u = .next (backgroundPart u u) := by
  have e1 : exec .edgeQualify u = .next (edgeQualifyEffect u) := elaborated_of_structural _ _ h
  have e2 : exec .debounce (edgeQualifyEffect u) = .next (debounceEffect (edgeQualifyEffect u)) :=
    elaborated_of_structural _ _ h
  have hc : debounceEffect (edgeQualifyEffect u)
      = { edgeQualifyEffect u with inDb := (debounceEffect u).inDb, dbCnt := (debounceEffect u).dbCnt } := by
    unfold debounceEffect
    simp only [show (edgeQualifyEffect u).sync2 = u.sync2 from rfl, show (edgeQualifyEffect u).inDb = u.inDb from rfl,
      show (edgeQualifyEffect u).cfg = u.cfg from rfl, show (edgeQualifyEffect u).dbCnt = u.dbCnt from rfl]
    (repeat' split) <;> rfl
  have e3 : ∀ t : State, t.cfg = u.cfg → exec .inputSync t = .next (inputSyncEffect t) :=
    fun t ht => elaborated_of_structural _ _ (by rw [ht]; exact h)
  have e4 : ∀ t : State, t.cfg = u.cfg → exec .timestampCount t = .next (timestampEffect t) :=
    fun t ht => elaborated_of_structural _ _ (by rw [ht]; exact h)
  unfold backgroundPhase
  rw [e1, andThen_next, e2, andThen_next, hc]
  generalize hv : ({ edgeQualifyEffect u with
    inDb := (debounceEffect u).inDb, dbCnt := (debounceEffect u).dbCnt } : State) = v
  have hvc : v.cfg = u.cfg := by rw [← hv]; rfl
  rw [e3 v hvc, andThen_next, e4 (inputSyncEffect v) hvc, ← hv]
  rfl

theorem hostPart_sameBackground (s : State) : SameBackground (hostPart s) s := by
  rw [hostPart_frame s]
  exact ⟨rfl, rfl, rfl, rfl, rfl, rfl, rfl, rfl⟩

theorem fsmPart_sameBackground (s : State) : SameBackground (fsmPart s) s := by
  rw [fsmPart_frame s]
  exact ⟨rfl, rfl, rfl, rfl, rfl, rfl, rfl, rfl⟩

end Sys2Proof.Laws
end

