-- ==== Sys2Proof/Laws/PerInstr.lean ====
section
/-! SUPPORT. The family TableRow: every instruction's encoding fits the match and mask of its row of
spec/opcode_table.json, and a row without match and mask has no encoding. -/

namespace Sys2Proof.Laws.TableRow

/-- The match and mask of a row, as spec/opcode_table.json gives them; none for a row it gives null. -/
def pattern : Instr → Option (Nat × Nat)
  | .begin _ => some (0x1001, 0x1F01)
  | .loop _ => some (0x1002, 0x1F03)
  | .ctrlNop _ => some (0x1000, 0x1F03)
  | .rdCtrl _ => some (0x0000, 0x1F00)
  | .rdStatus _ => some (0x0100, 0x1F00)
  | .wrStatus _ => some (0x1100, 0x1F00)
  | .rdConfig _ => some (0x0200, 0x1F00)
  | .wrConfig _ _ => some (0x1200, 0x1F00)
  | .rdRsvd3 _ => some (0x0300, 0x1F00)
  | .rdRsvd _ _ => some (0x0400, 0x1C00)
  | .wrRsvd3 _ => some (0x1300, 0x1F00)
  | .wrRsvd _ _ => some (0x1400, 0x1C00)
  | .rdFrame _ _ => some (0x0800, 0x1800)
  | .wrFrame _ _ => some (0x1800, 0x1800)
  | .holdUnconfigured _ => some (0x00, 0x38)
  | .holdIdle _ => some (0x08, 0x38)
  | .waitForStartBit _ => some (0x10, 0x3C)
  | .waitNextStart _ => some (0x14, 0x3C)
  | .waitStartBitComplete _ => some (0x18, 0x38)
  | .transmitZero _ => some (0x20, 0x39)
  | .transmitOne _ => some (0x21, 0x39)
  | .receiveBit _ _ => some (0x28, 0x3A)
  | .byteComplete _ _ => some (0x2A, 0x3A)
  | .holdSuccess _ => some (0x30, 0x38)
  | .holdDesync _ => some (0x38, 0x38)
  | .timestampCount | .inputSync | .debounce | .edgeQualify | .delayUsWithStartTime _
  | .syncTransmission | .transmitByte | .receiveByte | .repeatControl | .lancTransmitReceive => none

/-- A word of n bits fits a row's match and mask. -/
def Fits {n : Nat} (w : BitVec n) (r : Nat × Nat) : Prop := w &&& BitVec.ofNat n r.2 = BitVec.ofNat n r.1

/-- The encoding of an instruction fits its row. -/
def Statement (i : Instr) : Prop :=
  match pattern i with
  | none => encode i = none
  | some r => (∃ w, encodeHost i = some w ∧ Fits w r) ∨ (encodeHost i = none ∧ ∃ w, encodeSelector i = some w ∧ Fits w r)

theorem begin (ignored : BitVec 7) : Statement (.begin ignored) := by
  refine .inl ⟨_, rfl, ?_⟩
  unfold Fits; revert ignored; decide +kernel

theorem loop (ignored : BitVec 6) : Statement (.loop ignored) := by
  refine .inl ⟨_, rfl, ?_⟩
  unfold Fits; revert ignored; decide +kernel

theorem ctrlNop (ignored : BitVec 6) : Statement (.ctrlNop ignored) := by
  refine .inl ⟨_, rfl, ?_⟩
  unfold Fits; revert ignored; decide +kernel

theorem rdCtrl (data : Byte) : Statement (.rdCtrl data) := by
  refine .inl ⟨_, rfl, ?_⟩
  unfold Fits; revert data; decide +kernel

theorem rdStatus (data : Byte) : Statement (.rdStatus data) := by
  refine .inl ⟨_, rfl, ?_⟩
  unfold Fits; revert data; decide +kernel

theorem wrStatus (data : Byte) : Statement (.wrStatus data) := by
  refine .inl ⟨_, rfl, ?_⟩
  unfold Fits; revert data; decide +kernel

theorem rdConfig (data : Byte) : Statement (.rdConfig data) := by
  refine .inl ⟨_, rfl, ?_⟩
  unfold Fits; revert data; decide +kernel

theorem wrConfig (ignored : BitVec 6) (repeats : BitVec 2) : Statement (.wrConfig ignored repeats) := by
  refine .inl ⟨_, rfl, ?_⟩
  unfold Fits; revert ignored repeats; decide +kernel

theorem rdRsvd3 (data : Byte) : Statement (.rdRsvd3 data) := by
  refine .inl ⟨_, rfl, ?_⟩
  unfold Fits; revert data; decide +kernel

theorem rdRsvd (a : BitVec 2) (data : Byte) : Statement (.rdRsvd a data) := by
  refine .inl ⟨_, rfl, ?_⟩
  unfold Fits; revert a data; decide +kernel

theorem wrRsvd3 (data : Byte) : Statement (.wrRsvd3 data) := by
  refine .inl ⟨_, rfl, ?_⟩
  unfold Fits; revert data; decide +kernel

theorem wrRsvd (a : BitVec 2) (data : Byte) : Statement (.wrRsvd a data) := by
  refine .inl ⟨_, rfl, ?_⟩
  unfold Fits; revert a data; decide +kernel

theorem rdFrame (n : Index) (data : Byte) : Statement (.rdFrame n data) := by
  refine .inl ⟨_, rfl, ?_⟩
  unfold Fits; revert n data; decide +kernel

theorem wrFrame (n : Index) (v : Byte) : Statement (.wrFrame n v) := by
  refine .inl ⟨_, rfl, ?_⟩
  unfold Fits; revert n v; decide +kernel

theorem holdUnconfigured (x : BitVec 3) : Statement (.holdUnconfigured x) := by
  refine .inr ⟨rfl, _, rfl, ?_⟩
  unfold Fits; revert x; decide +kernel

theorem holdIdle (x : BitVec 3) : Statement (.holdIdle x) := by
  refine .inr ⟨rfl, _, rfl, ?_⟩
  unfold Fits; revert x; decide +kernel

theorem waitForStartBit (x : BitVec 2) : Statement (.waitForStartBit x) := by
  refine .inr ⟨rfl, _, rfl, ?_⟩
  unfold Fits; revert x; decide +kernel

theorem waitNextStart (x : BitVec 2) : Statement (.waitNextStart x) := by
  refine .inr ⟨rfl, _, rfl, ?_⟩
  unfold Fits; revert x; decide +kernel

theorem waitStartBitComplete (x : BitVec 3) : Statement (.waitStartBitComplete x) := by
  refine .inr ⟨rfl, _, rfl, ?_⟩
  unfold Fits; revert x; decide +kernel

theorem transmitZero (x : BitVec 2) : Statement (.transmitZero x) := by
  refine .inr ⟨rfl, _, rfl, ?_⟩
  unfold Fits; revert x; decide +kernel

theorem transmitOne (x : BitVec 2) : Statement (.transmitOne x) := by
  refine .inr ⟨rfl, _, rfl, ?_⟩
  unfold Fits; revert x; decide +kernel

theorem receiveBit (warm txbit : BitVec 1) : Statement (.receiveBit warm txbit) := by
  refine .inr ⟨rfl, _, rfl, ?_⟩
  unfold Fits; revert warm txbit; decide +kernel

theorem byteComplete (warm txbit : BitVec 1) : Statement (.byteComplete warm txbit) := by
  refine .inr ⟨rfl, _, rfl, ?_⟩
  unfold Fits; revert warm txbit; decide +kernel

theorem holdSuccess (x : BitVec 3) : Statement (.holdSuccess x) := by
  refine .inr ⟨rfl, _, rfl, ?_⟩
  unfold Fits; revert x; decide +kernel

theorem holdDesync (x : BitVec 3) : Statement (.holdDesync x) := by
  refine .inr ⟨rfl, _, rfl, ?_⟩
  unfold Fits; revert x; decide +kernel

theorem timestampCount : Statement .timestampCount := rfl

theorem inputSync : Statement .inputSync := rfl

theorem debounce : Statement .debounce := rfl

theorem edgeQualify : Statement .edgeQualify := rfl

theorem delayUsWithStartTime (waitTime : Nat) : Statement (.delayUsWithStartTime waitTime) := rfl

theorem syncTransmission : Statement .syncTransmission := rfl

theorem transmitByte : Statement .transmitByte := rfl

theorem receiveByte : Statement .receiveByte := rfl

theorem repeatControl : Statement .repeatControl := rfl

theorem lancTransmitReceive : Statement .lancTransmitReceive := rfl

end Sys2Proof.Laws.TableRow
end

