-- ==== Sys2Proof/Laws/Time.lean ====
section
/-! SUPPORT. Modular time (00_scope.md R16): the elapsed time grows by one with each count while the timing reference
stands, and is 1 one count after the reference was set. -/

namespace Sys2Proof.Laws

open Sys2Proof.Machine

theorem addM_lt (p : Config) (a b : Nat) : p.addM a b < p.modulus := Nat.mod_lt _ (modulus_pos p)

/-- The elapsed time one count later, from the same timing reference. -/
theorem elapsed_later (s t : State) (hn : t.now = (timestampEffect s).now) (hc : t.cfg = s.cfg) (hr : t.tRef = s.tRef) :
    t.elapsed = (s.elapsed + 1) % s.cfg.modulus := by
  unfold State.elapsed
  rw [hn, hc, hr]
  exact subM_tick _ _ _

/-- The elapsed time one count later, where the timing reference was set to the count before. -/
theorem elapsed_fresh (s t : State) (hn : t.now = (timestampEffect s).now) (hc : t.cfg = s.cfg) (hr : t.tRef = s.now)
    (h2 : 2 ≤ s.cfg.tw) : t.elapsed = 1 := by
  unfold State.elapsed
  rw [hn, hc, hr]
  have h4 : 2 ^ 2 ≤ s.cfg.modulus := Nat.pow_le_pow_right (by decide) h2
  exact subM_self_tick s.cfg s.now (by omega)

/-- One count on, an elapsed time short of a target is no more than the target: nothing wraps on the way. -/
theorem succ_mod_le (e m d : Nat) (h : e < d) (hd : d < m) : (e + 1) % m ≤ d := by
  rw [Nat.mod_eq_of_lt (by omega)]
  omega

end Sys2Proof.Laws
end

