-- ==== Sys2Proof/WellFormed.lean ====
section
/-! DEFINITION. Which terms of Instr are instructions of a block with given parameters. -/

namespace Sys2Proof

/-- Every operand but one has the width its field has, so only the target offset of a deadline wait needs a check: it
is an elapsed time of TW bits (00_scope.md R9, R16; 42_transceiver.md R183: no target reaches `2^TW`). -/
def Instr.WellFormed (p : Config) : Instr → Bool
  | .delayUsWithStartTime d => decide (d < p.modulus)
  | .begin _ | .loop _ | .ctrlNop _ | .rdCtrl _ | .rdStatus _ | .wrStatus _ | .rdConfig _ | .wrConfig _ _
  | .rdRsvd3 _ | .rdRsvd _ _ | .wrRsvd3 _ | .wrRsvd _ _ | .rdFrame _ _ | .wrFrame _ _
  | .holdUnconfigured _ | .holdIdle _ | .waitForStartBit _ | .waitNextStart _ | .waitStartBitComplete _
  | .transmitZero _ | .transmitOne _ | .receiveBit _ _ | .byteComplete _ _ | .holdSuccess _ | .holdDesync _
  | .timestampCount | .inputSync | .debounce | .edgeQualify
  | .syncTransmission | .transmitByte | .receiveByte | .repeatControl | .lancTransmitReceive => true

end Sys2Proof
end

