-- ==== Sys2Proof/Tests/Slice0.lean ====
section
/-! SUPPORT. Tests. Each takes its expected values from the spec: the vectors V-… and programs P… of
95_test_vectors.md, or the rule its comment names. Words are written out from the tables of 30_encoding.md. After the
tests, the witnesses: for every statement with hypotheses, a state and operands that meet all of them. -/

namespace Sys2Proof.Tests

open Sys2Proof.Machine Sys2Proof.Safety

/-! ### Builders -/

/-- A next state with the property p. -/
def nextIs (r : Host.Outcome State Fault Refusal) (p : State → Bool) : Bool :=
  match r with
  | .next t => p t
  | .fault _ | .refused _ => false

/-- A refusal of the parameters. -/
def refusesParameters (r : Host.Outcome State Fault Refusal) : Bool :=
  match r with
  | .refused .illegalParameters => true
  | .next _ | .fault _ | .refused (.notModelled _) => false

/-- A block after BEGIN (V-H2). -/
def idle : State := { State.reset with st := .idle, oeQ := true, pending := [Input.quiet true] }

/-- A block that waits in AWAIT_START with elapsed time e, on an idle line. -/
def waiting (e : Nat) : State := { idle with st := .awaitStart, now := e, tRef := 0, idleRun := 4 }

/-- The same with a start edge in this cycle: the debounced level is low, and was high for 4 cycles. -/
def waitingEdge (e : Nat) : State := { waiting e with inDb := false }

/-- A block in the start window with elapsed time e. -/
def window (e : Nat) : State := { idle with st := .startConfirmed, now := 22 + e, tRef := 22 }

/-- The same state with n quiet cycles decided. -/
def quietFor (n : Nat) (s : State) : State := { s with pending := List.replicate n (Input.quiet true) }

/-- A block in slot (i, j), waiting for the drive with elapsed time e; the frame is that of P1. -/
def driving (i j : Index) (e : Nat) : State :=
  { idle with
    st := .transmitByte, byteIdx := i, bitIdx := j, now := 26 + e, tRef := 26
    frame := #v[0x5A, 0x01, 0xFF, 0x00, 0x80, 0xA5, 0x3C, 0xC3] }

/-- The same, waiting for the sample. -/
def sampling (i j : Index) (e : Nat) : State := { driving i j e with st := .receiveByte }

/-- The same, in the tail of the byte with the byte r received. -/
def ending (i : Index) (r : Byte) (e : Nat) : State := { sampling i 7 e with tail := true, rxShift := r }

/-- One step with a host word, on an idle line. -/
def hostStep (s : State) (w : Nat) : Host.Outcome State Fault Refusal := step (s.withFetchWord 16 w)

/-! ### Parameters and well-formedness -/

theorem test_p_test_admitted : Config.pTest.structural = true ∧ Config.pTest.Scheduled ∧ Config.pTest.LoopbackReady := by
  decide

/-- 00_scope.md R12 and 95_test_vectors.md: the derived values of P_TEST. -/
theorem test_p_test_derived :
    Config.pTest.idleByte = 0xFF ∧ Config.pTest.inputLat = 3 ∧ Config.pTest.frameSpan = 569
      ∧ Config.pTest.modulus = 65536 := by decide

/-- An ill-formed term: a target offset outside the TW bits of an elapsed time. The largest offset is accepted. -/
theorem test_wellformed_smoke :
    (Instr.delayUsWithStartTime 65536).WellFormed Config.pTest = false
      ∧ (Instr.delayUsWithStartTime 65535).WellFormed Config.pTest = true
      ∧ (Instr.begin 0x7F).WellFormed Config.pTest = true := by decide

/-- 00_scope.md R9: one parameter set for each structural constraint that it breaks. -/
theorem test_r9_refused :
    { Config.pTest with tw := 1 }.structural = false ∧ { Config.pTest with dbLen := 0 }.structural = false
      ∧ { Config.pTest with tStart := 0 }.structural = false ∧ { Config.pTest with tBit := 1 }.structural = false
      ∧ { Config.pTest with tw := 9 }.structural = false
      ∧ { Config.pTest with sampleAt := 65000 }.structural = false
      ∧ { Config.pTest with tStart := 65536 }.structural = false
      ∧ { Config.pTest with timeoutCold := 0 }.structural = false
      ∧ { Config.pTest with timeoutCold := 65536 }.structural = false
      ∧ { Config.pTest with timeoutWarm := 0 }.structural = false
      ∧ { Config.pTest with timeoutWarm := 65536 }.structural = false := by decide

theorem test_illegal_parameters_step :
    refusesParameters (step { idle with cfg := { Config.pTest with dbLen := 0 } }) = true := by decide

/-- V-E4 to V-E7: sets that break R10 only are admitted. -/
theorem test_r10_admitted :
    { Config.pTest with sampleAt := 0 }.structural = true ∧ ¬ { Config.pTest with sampleAt := 0 }.Scheduled
      ∧ { Config.pTest with sampleAt := 8 }.structural = true ∧ ¬ { Config.pTest with sampleAt := 8 }.Scheduled
      ∧ ¬ { Config.pTest with byteOffset := #v[1, 65, 138, 211, 284, 357, 430, 503] }.Scheduled := by decide

/-! ### Decoding: words written out from the rows of 30_encoding.md R93 and R102 -/

theorem test_decode_ctrl :
    decodeTableWord 16 0b1000000000001 = some (.begin 0b0000000)
      ∧ decodeTableWord 16 0b1000010000001 = some (.begin 0b1000000)
      ∧ decodeTableWord 16 0b1000000000011 = some (.begin 0b0000001)
      ∧ decodeTableWord 16 0b1000000000010 = some (.loop 0b000000)
      ∧ decodeTableWord 16 0b1000000000110 = some (.loop 0b000001)
      ∧ decodeTableWord 16 0b1000000000000 = some (.ctrlNop 0b000000)
      ∧ decodeTableWord 16 0b1000010000000 = some (.ctrlNop 0b100000)
      ∧ decodeTableWord 16 0b0000000000001 = some (.rdCtrl 0b00000001) := by decide

theorem test_decode_status_config :
    decodeTableWord 16 0b0000100000000 = some (.rdStatus 0x00)
      ∧ decodeTableWord 16 0b1000111111111 = some (.wrStatus 0xFF)
      ∧ decodeTableWord 16 0b0001000000000 = some (.rdConfig 0x00)
      ∧ decodeTableWord 16 0b1001011111110 = some (.wrConfig 0b111111 0b10)
      ∧ decodeTableWord 16 0b1001000000001 = some (.wrConfig 0b000000 0b01) := by decide

theorem test_decode_reserved :
    decodeTableWord 16 0b0001100000000 = some (.rdRsvd3 0x00)
      ∧ decodeTableWord 16 0b0010000000000 = some (.rdRsvd 0b00 0x00)
      ∧ decodeTableWord 16 0b0011100000000 = some (.rdRsvd 0b11 0x00)
      ∧ decodeTableWord 16 0b1001111111111 = some (.wrRsvd3 0xFF)
      ∧ decodeTableWord 16 0b1010011111111 = some (.wrRsvd 0b00 0xFF)
      ∧ decodeTableWord 16 0b1011100000001 = some (.wrRsvd 0b11 0x01) := by decide

theorem test_decode_frame :
    decodeTableWord 16 0b0100000000000 = some (.rdFrame 0 0x00)
      ∧ decodeTableWord 16 0b0111100000000 = some (.rdFrame 7 0x00)
      ∧ decodeTableWord 16 0b1100001011010 = some (.wrFrame 0 0x5A)
      ∧ decodeTableWord 16 0b1111111000011 = some (.wrFrame 7 0xC3)
      ∧ decodeTableWord 16 0b1110010000000 = some (.wrFrame 4 0x80) := by decide

theorem test_decode_synchronizer :
    decodeTableWord 8 0b010000 = some (.waitForStartBit 0b00)
      ∧ decodeTableWord 8 0b010010 = some (.waitForStartBit 0b10)
      ∧ decodeTableWord 8 0b010100 = some (.waitNextStart 0b00)
      ∧ decodeTableWord 8 0b010101 = some (.waitNextStart 0b01)
      ∧ decodeTableWord 8 0b011000 = some (.waitStartBitComplete 0b000)
      ∧ decodeTableWord 8 0b011100 = some (.waitStartBitComplete 0b100) := by decide

theorem test_decode_transceiver :
    decodeTableWord 8 0b100000 = some (.transmitZero 0b00)
      ∧ decodeTableWord 8 0b100110 = some (.transmitZero 0b11)
      ∧ decodeTableWord 8 0b100001 = some (.transmitOne 0b00)
      ∧ decodeTableWord 8 0b100011 = some (.transmitOne 0b01)
      ∧ decodeTableWord 8 0b101000 = some (.receiveBit 0 0)
      ∧ decodeTableWord 8 0b101101 = some (.receiveBit 1 1)
      ∧ decodeTableWord 8 0b101010 = some (.byteComplete 0 0)
      ∧ decodeTableWord 8 0b101110 = some (.byteComplete 1 0) := by decide

theorem test_decode_holds :
    decodeTableWord 8 0b000000 = some (.holdUnconfigured 0b000)
      ∧ decodeTableWord 8 0b000111 = some (.holdUnconfigured 0b111)
      ∧ decodeTableWord 8 0b001000 = some (.holdIdle 0b000)
      ∧ decodeTableWord 8 0b110001 = some (.holdSuccess 0b001)
      ∧ decodeTableWord 8 0b111100 = some (.holdDesync 0b100) := by decide

/-- A word wider than its format, or of another length, is rejected by name. -/
theorem test_decode_rejects :
    decode [] = .error .badLength ∧ decode [0x40] = .error .selectorTooWide
      ∧ decode [0x00, 0x20] = .error .hostWordTooWide ∧ decode [0x00, 0x00, 0x00] = .error .badLength
      ∧ decodeTableWord 24 0 = none := by decide

/-- The encoder on words of 95_test_vectors.md. -/
theorem test_encode :
    encodeHost (.begin 0) = some 0x1001 ∧ encodeHost (.loop 0) = some 0x1002
      ∧ encodeHost (.wrConfig 0x3F 2) = some 0x12FE ∧ encodeHost (.wrFrame 7 0xC3) = some 0x1FC3
      ∧ encodeHost (.rdFrame 4 0x00) = some 0x0C00 ∧ encode .debounce = none := by decide

/-! ### Host commands -/

/-- V-H1: in cycle 1 the registers read as reset leaves them. -/
theorem test_v_h1_reset_reads :
    nextIs (hostStep State.reset 0x0100) (fun t => t.rdata = 0x00) = true
      ∧ nextIs (hostStep State.reset 0x0200) (fun t => t.rdata = 0x03) = true
      ∧ nextIs (hostStep State.reset 0x0800) (fun t => t.rdata = 0xFF) = true
      ∧ nextIs (hostStep State.reset 0x0000) (fun t => t.rdata = 0x00) = true
      ∧ nextIs (hostStep State.reset 0x0500) (fun t => t.rdata = 0x00) = true := by decide

/-- V-H2. -/
theorem test_v_h2_begin :
    nextIs (hostStep State.reset 0x1001) (fun t => t.status = 0x01 && t.lancOe && t.lancOut) = true := by decide

/-- V-H3. -/
theorem test_v_h3_config :
    nextIs (hostStep idle 0x12FE) (fun t => t.configByte = 0x02) = true := by decide

/-- V-H4, and rule R128: no other byte changes. -/
theorem test_v_h4_stage :
    nextIs (hostStep idle 0x1FC3) (fun t => t.hostRead 0xF = 0xC3 && t.hostRead 0xE = 0xFF) = true := by decide

/-- V-H5. -/
theorem test_v_h5_ignored_writes :
    nextIs (hostStep idle 0x11FF) (fun t => t.status = 0x01) = true
      ∧ nextIs (hostStep idle 0x14FF) (fun t => t.status = 0x01 && t.hostRead 0x4 = 0x00) = true
      ∧ nextIs (hostStep idle 0x10FC) (fun t => t.status = 0x01) = true := by decide

/-- V-H8, in cycle 7. -/
theorem test_v_h8_loop :
    nextIs (hostStep { idle with now := 6 } 0x1002) (fun t => t.status = 0x0A && t.tRef = 6 && t.now = 7) = true := by
  decide

/-- V-H9: in cycle 8, a gated write while busy sets IGN and nothing else. -/
theorem test_v_h9_gate :
    nextIs (hostStep { waiting 0 with repeatsM1 := 2 } 0x1001) (fun t => t.status = 0x4A) = true
      ∧ nextIs (hostStep { waiting 0 with repeatsM1 := 2 } 0x1002) (fun t => t.status = 0x4A) = true
      ∧ nextIs (hostStep { waiting 0 with repeatsM1 := 2 } 0x1000) (fun t => t.status = 0x4A) = true
      ∧ nextIs (hostStep { waiting 0 with repeatsM1 := 2 } 0x1200)
          (fun t => t.status = 0x4A && t.configByte = 0x02) = true := by decide

/-- V-H10: an ungated write while busy does not set IGN. -/
theorem test_v_h10_not_gated :
    nextIs (hostStep (waiting 0) 0x1100) (fun t => t.status = 0x0A) = true
      ∧ nextIs (hostStep (waiting 0) 0x1400) (fun t => t.status = 0x0A) = true
      ∧ nextIs (hostStep (waiting 0) 0x1300) (fun t => t.status = 0x0A) = true := by decide

/-- V-H11. -/
theorem test_v_h11_not_ready :
    nextIs (hostStep State.reset 0x1002) (fun t => t.status = 0x10 && t.cause = .notReady && !t.lancOe) = true := by
  decide

/-- V-H12: BEGIN wins over LOOP. -/
theorem test_v_h12_begin_wins : nextIs (hostStep idle 0x1003) (fun t => t.status = 0x01) = true := by decide

/-- 40_host_commands.md R129: a frame byte is read while busy too. -/
theorem test_read_frame_busy :
    nextIs (hostStep (driving 1 0 66) 0x0900) (fun t => t.rdata = 0x01 && !t.ign) = true := by decide

/-! ### Background operations -/

/-- V-S1 (DB_LEN = 2), rows 14 to 15: the level of sync2 has persisted and the debounced level follows. -/
theorem test_v_s1_follows :
    nextIs (exec .debounce
        { idle with cfg := { Config.pTest with dbLen := 2 }, sync2 := false, inDb := true, dbCnt := 1 })
      (fun t => t.inDb == false && t.dbCnt = 0) = true := by decide

/-- V-S1, rows 9 to 10: one cycle of a changed level is only counted. -/
theorem test_v_s1_counts :
    nextIs (exec .debounce
        { idle with cfg := { Config.pTest with dbLen := 2 }, sync2 := false, inDb := true, dbCnt := 0 })
      (fun t => t.inDb && t.dbCnt = 1) = true := by decide

/-- V-S2, rows 4 to 5: the input synchronizer, and the count of idle cycles. -/
theorem test_v_s2_row4 :
    nextIs (step ({ State.reset with sync1 := false, idleRun := 3, now := 3 }.withInput (Input.quiet false)))
      (fun t => !t.sync1 && !t.sync2 && t.inDb && t.idleRun = 4 && t.now = 4 && !t.startEdge) = true := by decide

/-- V-S2, rows 5 to 6: the debounced level falls and there is a start edge. -/
theorem test_v_s2_edge :
    nextIs (step ({ State.reset with sync1 := false, sync2 := false, idleRun := 4 }.withInput (Input.quiet true)))
      (fun t => !t.inDb && t.idleRun = 4 && t.startEdge) = true := by decide

/-- A line asserted from reset on, cycle 3 to 4 by hand from 41_synchronizer.md R154: the smallest INPUT_LAT is 3, so with
GAP_MIN = 3 there is a start edge in cycle 4, and with GAP_MIN = 4 there is none (log 17). -/
theorem test_r263_gap :
    nextIs (step ({ State.reset with
        cfg := { Config.pTest with gapMin := 3 }, sync1 := false, sync2 := false, idleRun := 2, now := 2 }.withInput
          (Input.quiet false))) (fun t => !t.inDb && t.idleRun = 3 && t.startEdge) = true
      ∧ nextIs (step ({ State.reset with sync1 := false, sync2 := false, idleRun := 2, now := 2 }.withInput
          (Input.quiet false))) (fun t => !t.inDb && t.idleRun = 3 && !t.startEdge) = true := by decide

/-- V-S2, row 11: after two idle cycles only, an asserting edge is no start edge. -/
theorem test_v_s2_bit_edge :
    { State.reset with inDb := false, idleRun := 2, prevAsserted := false }.startEdge = false := by decide

/-- V-S2, rows 6 to 7: an asserted cycle clears the count. -/
theorem test_v_s2_clears :
    nextIs (exec .edgeQualify { State.reset with inDb := false, idleRun := 4 })
      (fun t => t.prevAsserted && t.idleRun = 0) = true := by decide

/-- 41_synchronizer.md R150: the counter wraps at 2^TW. -/
theorem test_timestamp_wraps :
    nextIs (exec .timestampCount { idle with now := 65535 }) (fun t => t.now = 0) = true := by decide

/-- 41_synchronizer.md R151: sync2 takes the old sync1. -/
theorem test_input_sync :
    nextIs (exec .inputSync { State.reset with sync1 := false, pending := [Input.quiet true] })
      (fun t => t.sync1 && !t.sync2) = true := by decide

/-! ### The Link Synchronizer -/

/-- V-S3: at e = 800 the edge wins over the timeout. -/
theorem test_v_s3_edge_wins :
    nextIs (step (waitingEdge 800)) (fun t => t.st = .startConfirmed && t.tRef = 800 && t.cause = .none) = true := by
  decide

/-- V-S3 and V-E1: at e = 800 without an edge, LinkTimeout; STATUS reads 0x17. -/
theorem test_v_e1_link_timeout :
    nextIs (step (waiting 800)) (fun t => t.status = 0x17 && t.cause = .linkTimeout && t.lancOut) = true
      ∧ nextIs (step (waiting 799)) (fun t => t.status = 0x0A) = true := by decide

/-- V-E2: the warm wait ends at e = 300, and the repeat index is kept. -/
theorem test_v_e2_warm_timeout :
    nextIs (step { waiting 300 with warm := true, rep := 1 }) (fun t => t.status = 0x17 && t.rep = 1) = true
      ∧ nextIs (step { waiting 299 with warm := true, rep := 1 }) (fun t => t.st = .awaitStart) = true := by decide

/-- V-S5: in the cycle with e = T_START = 4 the origin is set. -/
theorem test_v_s5_window :
    nextIs (step { idle with st := .startConfirmed, tRef := 22, now := 26 })
        (fun t => t.st = .transmitByte && t.tRef = 26 && t.now = 27) = true
      ∧ nextIs (step { idle with st := .startConfirmed, tRef := 22, now := 25 })
        (fun t => t.st = .startConfirmed && t.tRef = 22) = true := by decide

/-! ### The Frame Transceiver -/

/-- V-T1, cycle 28: drive (0, 0), whose bit is 0, acts at e = 1. -/
theorem test_v_t1_drive :
    nextIs (step (driving 0 0 1)) (fun t => t.st = .receiveByte && !t.lancOut) = true
      ∧ nextIs (step (driving 0 0 0)) (fun t => t.st = .transmitByte && t.lancOut) = true := by decide

/-- V-T3, cycle 36: bit 1 of 0x5A is 1, the idle level. -/
theorem test_v_t3_drive_one :
    nextIs (step { driving 0 1 9 with outQ := false }) (fun t => t.st = .receiveByte && t.lancOut) = true := by decide

/-- V-T2, cycle 100: the time byte 0 took does not shift drive (1, 0). -/
theorem test_v_t2_preconsumed :
    nextIs (step (driving 1 0 73)) (fun t => t.st = .receiveByte) = true
      ∧ nextIs (step (driving 1 0 72)) (fun t => t.st = .transmitByte) = true := by decide

/-- V-E5: BYTE_OFFSET[0] = 0, and e = 1 at drive (0, 0). -/
theorem test_v_e5_late_drive :
    nextIs (step { driving 0 0 1 with cfg := { Config.pTest with byteOffset := Config.pTest.byteOffset.set 0 0 } })
      (fun t => t.st = .desyncFailure && t.cause = .timingViolation && t.status = 0x17) = true := by decide

/-- V-T1, cycle 33: the sample of slot (0, 0) acts at e = 6; an asserted line is a 0. -/
theorem test_v_t1_sample :
    nextIs (step { sampling 0 0 6 with rxShift := 0xFF, inDb := false })
        (fun t => t.rxShift = 0xFE && t.st = .transmitByte && t.bitIdx = 1) = true
      ∧ nextIs (step { sampling 0 7 62 with rxShift := 0x00 })
        (fun t => t.rxShift = 0x80 && t.st = .receiveByte && t.tail && t.bitIdx = 7) = true := by decide

/-- V-E6: SAMPLE_AT = 0, and e = 2 at the sample of slot (0, 0). -/
theorem test_v_e6_late_sample :
    nextIs (step { sampling 0 0 2 with cfg := { Config.pTest with sampleAt := 0 } })
      (fun t => t.cause = .timingViolation && t.st = .desyncFailure && t.lancOut) = true := by decide

/-- V-T2, cycle 92: byte 0 ends at e = 65, and its received byte is stored. -/
theorem test_byte_end :
    nextIs (step { ending 0 0xA7 65 with outQ := false })
        (fun t => t.st = .transmitByte && t.byteIdx = 1 && t.bitIdx = 0 && t.frameByte 0 = 0xA7 && t.frameByte 1 = 0x01
          && t.lancOut && !t.tail) = true
      ∧ nextIs (step (ending 0 0xA7 64)) (fun t => t.tail && t.frameByte 0 = 0x5A) = true := by decide

/-- V-T6, cycle 596: the end of repeat 0 of 4. -/
theorem test_v_t6_repeat :
    nextIs (step (ending 7 0xC3 569))
      (fun t => t.st = .awaitStart && t.rep = 1 && t.warm && t.tRef = 595 && t.status = 0x0A) = true := by decide

/-- V-T6, the last repeat: SUCCESS, STATUS 0x36, and the timing reference stands. -/
theorem test_v_t6_success :
    nextIs (step { ending 7 0xC3 569 with rep := 3 })
      (fun t => t.status = 0x36 && t.rep = 3 && t.byteIdx = 0 && t.bitIdx = 0 && t.tRef = 26) = true := by decide

/-- REPEAT_CONTROL on its own (42_transceiver.md R193). -/
theorem test_repeat_control :
    nextIs (exec .repeatControl { sampling 7 7 569 with rep := 2, repeatsM1 := 3 })
        (fun t => t.rep = 3 && t.warm && t.st = .awaitStart) = true
      ∧ nextIs (exec .repeatControl { sampling 7 7 569 with rep := 3, repeatsM1 := 3 })
        (fun t => t.st = .success && t.done && t.ok) = true := by decide

/-- V-T7: LOOP is accepted from SUCCESS and clears the result. -/
theorem test_v_t7_loop_again :
    nextIs (hostStep { idle with st := .success, done := true, ok := true, ign := true } 0x1002)
      (fun t => t.status = 0x0A) = true := by decide

/-- The holds: a cycle with no transaction changes no state of the FSM (42_transceiver.md R195 to R198). -/
theorem test_holds :
    nextIs (step { idle with st := .success, done := true, ok := true }) (fun t => t.status = 0x36) = true
      ∧ nextIs (step { idle with st := .desyncFailure, done := true }) (fun t => t.status = 0x17) = true
      ∧ nextIs (step idle) (fun t => t.status = 0x01 && t.now = 1) = true
      ∧ nextIs (step (State.reset.withInput (Input.quiet true))) (fun t => t.status = 0x00) = true := by decide

/-- 30_encoding.md R109: the levels of 0x5A, with each polarity. -/
theorem test_r109_levels :
    (List.map (fun j => Config.pTest.pinlevel (bitOf 0x5A j)) [0, 1, 2, 3, 4, 5, 6, 7])
        = [false, true, false, true, true, false, true, false]
      ∧ (List.map (fun j => { Config.pTest with oneAsserts := true }.pinlevel (bitOf 0x5A j)) [0, 1, 2, 3, 4, 5, 6, 7])
        = [true, false, true, false, false, true, false, true] := by decide

/-! ### Composites -/

/-- DELAY_US_WITH_START_TIME (source S3): never before the target, at it the action, after it TimingViolation. -/
theorem test_delay :
    nextIs (exec (.delayUsWithStartTime 5) (driving 0 0 4)) (fun t => t = driving 0 0 4) = true
      ∧ nextIs (exec (.delayUsWithStartTime 5) (driving 0 0 5)) (fun t => t.st = .receiveByte) = true
      ∧ nextIs (exec (.delayUsWithStartTime 5) (driving 0 0 6)) (fun t => t.cause = .timingViolation) = true := by decide

/-- SYNC_TRANSMISSION and RECEIVE_BYTE where their last cycle is the current one. -/
theorem test_composite_last_cycle :
    nextIs (exec .syncTransmission { idle with st := .startConfirmed, tRef := 22, now := 26 })
        (fun t => t.st = .transmitByte && t.tRef = 26) = true
      ∧ nextIs (exec .receiveByte (ending 0 0xA7 65)) (fun t => t.byteIdx = 1 && t.frameByte 0 = 0xA7) = true
      ∧ nextIs (exec .transmitByte (driving 0 7 57)) (fun t => t.st = .receiveByte && !t.lancOut) = true := by decide

/-- LANC_TRANSMIT_RECEIVE before BEGIN, and while a call is in progress (V-H11, V-H9). -/
theorem test_call_not_started :
    nextIs (exec .lancTransmitReceive (State.reset.withInput (Input.quiet true)))
        (fun t => t.status = 0x10 && t.cause = .notReady) = true
      ∧ nextIs (exec .lancTransmitReceive (waiting 0)) (fun t => t.status = 0x4A) = true := by decide

/-! ### Failures and reset -/

/-- V-E9 and V-E10: LOOP in DESYNC_FAILURE is refused; BEGIN leaves it. -/
theorem test_v_e9_e10 :
    nextIs (hostStep { idle with st := .desyncFailure, done := true, cause := .linkTimeout } 0x1002)
        (fun t => t.status = 0x17 && t.cause = .notReady && t.lancOut) = true
      ∧ nextIs (hostStep { driving 0 0 0 with st := .desyncFailure, done := true, cause := .notReady } 0x1001)
        (fun t => t.status = 0x01 && t.cause = .none && t.frameByte 0 = 0x5A) = true := by decide

/-- V-R1 and V-R2: reset, from a busy state with a byte staged. -/
theorem test_v_r2_reset :
    nextIs (step ({ waiting 0 with repeatsM1 := 2 }.withInput { Input.quiet true with rst := true }))
      (fun t => t.status = 0x00 && !t.lancOe && t.lancOut && t.now = 0 && t.frameByte 7 = 0xFF && t.configByte = 0x03)
      = true := by decide

/-- V-R5: in the last busy cycle a write is ignored and sets IGN; in the next it is accepted. -/
theorem test_v_r5_last_busy :
    nextIs (hostStep { ending 7 0xC3 569 with rep := 3 } 0x1977)
        (fun t => t.status = 0x76 && t.frameByte 1 = 0x01) = true
      ∧ nextIs (hostStep { idle with st := .success } 0x1977) (fun t => t.frameByte 1 = 0x77) = true := by decide

/-! ### Witnesses: one for every statement with hypotheses -/

theorem witness_DecodeOfEncode :
    encode (.wrFrame 7 0xC3) = some [0xC3, 0x1F] ∧ encode (.holdDesync 7) = some [0x3F] := by decide

theorem witness_StepRunsDecoded :
    (idle.withFetchWord 16 0x1002).input.rst = false
      ∧ decode (selectorBytes (idle.withFetchWord 16 0x1002).selector) = .ok (.holdIdle 1)
      ∧ (idle.withFetchWord 16 0x1002).input.hSel = true
      ∧ decode (hostBytes (idle.withFetchWord 16 0x1002).input.hostWord) = .ok (.loop 0) := by decide

theorem witness_StepRunsDecoded_quiet :
    idle.input.rst = false ∧ decode (selectorBytes idle.selector) = .ok (.holdIdle 1) ∧ idle.input.hSel = false := by
  decide

theorem witness_PlacedWordIsFetched : 0x1FFF < 2 ^ 13 ∧ 0x3F < 2 ^ 6 := by decide

theorem witness_StepIsSimultaneousCycle : State.reset.cfg.structural = true ∧ idle.cfg.structural = true := by decide

theorem witness_StepNeverStops : (driving 3 5 7).cfg.structural = true := by decide

/-- One parameter set for each clause, at the value next to the admitted ones. -/
theorem witness_IllegalParametersRefused :
    { Config.pTest with tw := 1 }.tw < 2 ∧ { Config.pTest with dbLen := 0 }.dbLen < 1
      ∧ { Config.pTest with tStart := 0 }.tStart < 1 ∧ { Config.pTest with tBit := 1 }.tBit < 2
      ∧ 2 ^ 16 ≤ { Config.pTest with byteOffset := Config.pTest.byteOffset.set 7 65472 }.offset 7 + 8 * 8
      ∧ 2 ^ 16 ≤ Config.pTest.offset 7 + 7 * 8 + { Config.pTest with sampleAt := 64975 }.sampleAt
      ∧ 2 ^ 16 ≤ { Config.pTest with tStart := 65536 }.tStart
      ∧ { Config.pTest with timeoutCold := 0 }.timeoutCold < 1
      ∧ 2 ^ 16 ≤ { Config.pTest with timeoutCold := 65536 }.timeoutCold
      ∧ { Config.pTest with timeoutWarm := 0 }.timeoutWarm < 1
      ∧ 2 ^ 16 ≤ { Config.pTest with timeoutWarm := 65536 }.timeoutWarm := by decide

/-- A busy state in a cycle with rst = 1. -/
theorem witness_ResetGivesResetValues :
    ((driving 3 5 7).withInput { Input.quiet true with rst := true }).cfg.structural = true
      ∧ ((driving 3 5 7).withInput { Input.quiet true with rst := true }).input.rst = true := by decide

theorem witness_ResetCycleReads :
    (idle.withInput { Input.quiet true with rst := true }).cfg.structural = true
      ∧ (idle.withInput { Input.quiet true with rst := true }).input.rst = true := by decide

theorem witness_InvariantsKept : (ending 7 0xC3 569).cfg.structural = true ∧ Inv (ending 7 0xC3 569) :=
  ⟨by decide, by constructor <;> decide⟩

/-- Each clause, at the ends of its range of addresses. -/
theorem witness_WriteGate :
    (waiting 0).cfg.structural = true ∧ (waiting 0).busy = true
      ∧ (BitVec.getLsbD (0x8 : Addr) 3 = true) ∧ (BitVec.getLsbD (0xF : Addr) 3 = true)
      ∧ (0x3 : Addr) ≤ 0x3 ∧ (0x7 : Addr) ≤ 0x7 ∧ (BitVec.getLsbD (0x7 : Addr) 3 = false) := by decide

theorem witness_BeginConfiguresLine : State.reset.cfg.structural = true ∧ State.reset.busy = false := by decide

theorem witness_LoopStartsCall :
    idle.cfg.structural = true ∧ idle.st = .idle ∧ { idle with st := .success }.st = .success := by decide

theorem witness_LoopRefusedNotReady :
    State.reset.cfg.structural = true ∧ State.reset.st = .unconfigured ∧ State.reset.ign = false
      ∧ { idle with st := .desyncFailure }.st = .desyncFailure ∧ { idle with st := .desyncFailure }.ign = false := by
  decide

theorem witness_CtrlNopOnlySetsIgn :
    idle.cfg.structural = true ∧ BitVec.extractLsb' 0 2 (0xFC : Byte) = 0#2 ∧ (waiting 0).cfg.structural = true
      ∧ (waiting 0).busy = true := by decide

theorem witness_ReadCtrlIsZero : (waiting 0).cfg.structural = true := by decide

theorem witness_ReadStatusFields : (waiting 1).cfg.structural = true := by decide

theorem witness_ReadConfig : (waiting 2).cfg.structural = true := by decide

theorem witness_ReadFrame : (sampling 0 0 1).cfg.structural = true := by decide

theorem witness_ReservedAddresses :
    (waiting 3).cfg.structural = true ∧ (0x3 : Addr) ≤ 0x3 ∧ (0x3 : Addr) ≤ 0x7 ∧ (0x7 : Addr) ≤ 0x7 := by decide

theorem witness_WriteStatusIgnored : (waiting 4).cfg.structural = true := by decide

theorem witness_WriteConfig : (waiting 5).cfg.structural = true ∧ (waiting 5).busy = true ∧ idle.busy = false := by
  decide

theorem witness_WriteFrameStagesByte :
    idle.cfg.structural = true ∧ idle.busy = false ∧ (waiting 6).busy = true := by decide

/-- The two ways to set IGN, and the two ways to clear it. -/
theorem witness_IgnSetAndCleared :
    ((waiting 0).withFetchWord 16 0x1000).cfg.structural = true
      ∧ ((waiting 0).withFetchWord 16 0x1000).input.rst = false
      ∧ gatedWrite ((waiting 0).withFetchWord 16 0x1000) = true
      ∧ acceptedBegin ({ idle with ign := true }.withFetchWord 16 0x1001) = true
      ∧ acceptedLoop ({ idle with ign := true }.withFetchWord 16 0x1002) = true := by decide

theorem witness_NoTransactionNoEffect : idle.cfg.structural = true ∧ (Input.quiet true).hSel = false := by decide

theorem witness_ReadsHaveNoSideEffect : (waiting 7).cfg.structural = true := by decide

theorem witness_HostCannotDisturbExchange : (driving 2 2 2).cfg.structural = true ∧ (driving 2 2 2).busy = true := by
  decide

theorem witness_TimestampCounts :
    { idle with now := 65535 }.cfg.structural = true ∧ { idle with now := 65535 }.input.rst = false := by decide

theorem witness_InputPath : (waitingEdge 1).cfg.structural = true := by decide

/-- Every clause: k at 0 and just below DB_LEN, and k at DB_LEN. -/
theorem witness_DebounceLatency :
    { idle with cfg := { Config.pTest with dbLen := 2 }, sync2 := false }.cfg.structural = true
      ∧ { idle with cfg := { Config.pTest with dbLen := 2 }, sync2 := false }.sync2 ≠ true
      ∧ { idle with cfg := { Config.pTest with dbLen := 2 }, sync2 := false }.inDb = true
      ∧ { idle with cfg := { Config.pTest with dbLen := 2 }, sync2 := false }.dbCnt = 0
      ∧ (0 ≤ 2 ∧ 1 < 2 ∧ 2 ≤ 2) := by decide

theorem witness_BackgroundRunsAlways : (sampling 1 1 1).cfg.structural = true ∧ (sampling 1 1 1).input.rst = false := by
  decide

theorem witness_LineReachesOnlySync1 : (sampling 1 1 2).cfg.structural = true := by decide

/-- The three cases of the wait, and the selector's premise. -/
theorem witness_AwaitStart :
    (waitingEdge 800).cfg.structural = true ∧ (waitingEdge 800).st = .awaitStart ∧ (waitingEdge 800).startEdge = true
      ∧ (waiting 800).startEdge = false ∧ (waiting 800).elapsed = 800 ∧ (waiting 799).elapsed = 799 := by decide

theorem witness_StartWindow :
    { idle with st := .startConfirmed, now := 4 }.cfg.structural = true
      ∧ { idle with st := .startConfirmed, now := 4 }.elapsed = Config.pTest.tStart
      ∧ { idle with st := .startConfirmed, now := 5 }.elapsed > Config.pTest.tStart := by decide

theorem witness_IdleLineTimesOut :
    { waiting 798 with pending := [Input.quiet true, Input.quiet true, Input.quiet true] }.cfg.structural = true
      ∧ { waiting 798 with pending := [Input.quiet true, Input.quiet true, Input.quiet true] }.st = .awaitStart
      ∧ LineIdle { waiting 798 with pending := [Input.quiet true, Input.quiet true, Input.quiet true] }
      ∧ { waiting 798 with pending := [Input.quiet true, Input.quiet true, Input.quiet true] }.elapsed = 798
      ∧ awaitBound (waiting 798) = 800 ∧ 800 - 798 < 3 ∧ (waiting 798).outQ = (waiting 798).cfg.outIdle :=
  ⟨by decide, by decide, by unfold LineIdle; decide, by decide, by decide, by decide, by decide⟩

/-- The three cases of the drive. -/
theorem witness_DriveSlot :
    (driving 0 1 9).cfg.structural = true ∧ (driving 0 1 9).elapsed = 9 ∧ (driving 0 1 8).elapsed = 8
      ∧ (driving 0 1 10).elapsed = 10 ∧ Config.pTest.offset 0 + 1 * Config.pTest.tBit = 9 := by decide

theorem witness_DriveActsAtDeadline :
    { driving 0 1 8 with pending := [Input.quiet true, Input.quiet false] }.cfg.structural = true
      ∧ { driving 0 1 8 with pending := [Input.quiet true, Input.quiet false] }.st = .transmitByte
      ∧ { driving 0 1 8 with pending := [Input.quiet true, Input.quiet false] }.elapsed = 8
      ∧ Config.pTest.driveTarget 0 1 = 9 ∧ 9 - 8 < 2
      ∧ ∀ j ∈ [Input.quiet true, Input.quiet false], j.rst = false := by decide

/-- Each clause of the sample: early, late, at the deadline with the last bit and with another. -/
theorem witness_SampleSlot :
    (sampling 0 0 6).cfg.structural = true ∧ (sampling 0 0 5).elapsed < Config.pTest.sampleTarget 0 0
      ∧ (sampling 0 0 7).elapsed > Config.pTest.sampleTarget 0 0
      ∧ (sampling 0 0 6).elapsed = Config.pTest.sampleTarget 0 0
      ∧ (sampling 0 7 62).elapsed = Config.pTest.sampleTarget 0 7 := by decide

/-- Each clause of the byte end: early, late, at the deadline for the last byte and for another. -/
theorem witness_ByteEnd :
    (ending 0 0 65).cfg.structural = true ∧ (ending 0 0 64).elapsed < Config.pTest.endTarget 0
      ∧ (ending 0 0 66).elapsed > Config.pTest.endTarget 0 ∧ (ending 0 0 65).elapsed = Config.pTest.endTarget 0
      ∧ (ending 7 0 569).elapsed = Config.pTest.endTarget 7 := by decide

theorem witness_RepeatController :
    (ending 7 0 569).cfg.structural = true ∧ (ending 7 0 569).rep ≠ (ending 7 0 569).repeatsM1
      ∧ { ending 7 0 569 with rep := 3 }.rep = { ending 7 0 569 with rep := 3 }.repeatsM1 := by decide

theorem witness_HoldsChangeNothing : idle.cfg.structural = true := by decide

/-- Each clause of the deadline wait. -/
theorem witness_DelayIsTheTimedWait :
    (driving 0 0 5).cfg.structural = true ∧ (driving 0 0 5).st = .transmitByte ∧ (driving 0 0 5).elapsed < 6
      ∧ (driving 0 0 5).elapsed = 5 ∧ (driving 0 0 5).elapsed > 4 ∧ idle.st = .idle
      ∧ { idle with st := .startConfirmed }.st = .startConfirmed ∧ (sampling 0 0 5).st = .receiveByte := by decide

/-- A call in AWAIT_START, and a block with no sync to do. -/
theorem witness_SyncTransmissionEnds :
    (waiting 0).cfg.structural = true ∧ inSync (waiting 0) = true ∧ inSync idle = false
      ∧ nextIs (exec .syncTransmission (waiting 800)) (fun t => t.st = .desyncFailure) = true := by decide

/-- The completion clause: an edge in this cycle, and a window at its deadline, with the cycles it takes decided. -/
theorem witness_SyncTransmissionEnds_completes :
    (quietFor 5 (waitingEdge 3)).st = .awaitStart ∧ (quietFor 5 (waitingEdge 3)).startEdge = true
      ∧ (quietFor 5 (window 4)).st = .startConfirmed ∧ (quietFor 5 (window 4)).elapsed ≤ Config.pTest.tStart
      ∧ (∀ j ∈ (quietFor 5 (window 4)).pending, j.rst = false)
      ∧ Config.pTest.tStart < (quietFor 5 (window 4)).pending.length
      ∧ nextIs (exec .syncTransmission (quietFor 5 (waitingEdge 3)))
          (fun t => t.st = .transmitByte && t.tRef = 7) = true := by decide

/-- The completion clause, from the first drive of byte 0. -/
theorem witness_TransmitByteEnds_completes :
    (quietFor 57 (driving 0 0 1)).cfg.Scheduled ∧ OnSchedule (quietFor 57 (driving 0 0 1))
      ∧ (∀ j ∈ (quietFor 57 (driving 0 0 1)).pending, j.rst = false)
      ∧ Config.pTest.driveTarget 0 7 - 1 < (quietFor 57 (driving 0 0 1)).pending.length :=
  ⟨by decide, by show (driving 0 0 1).elapsed ≤ Config.pTest.driveTarget 0 0; decide, by decide, by decide⟩

/-- The completion clause, at the end of the byte. -/
theorem witness_ReceiveByteEnds_completes :
    (quietFor 1 (ending 0 0xA7 65)).cfg.Scheduled ∧ OnSchedule (quietFor 1 (ending 0 0xA7 65))
      ∧ (∀ j ∈ (quietFor 1 (ending 0 0xA7 65)).pending, j.rst = false)
      ∧ Config.pTest.endTarget 0 - 65 < (quietFor 1 (ending 0 0xA7 65)).pending.length :=
  ⟨by decide, by show (ending 0 0xA7 65).elapsed ≤ Config.pTest.endTarget 0; decide, by decide, by decide⟩

theorem witness_CallIsItsSequence :
    idle.cfg.structural = true ∧ idle.input.rst = false ∧ idle.st = .idle
      ∧ { idle with st := .success }.st = .success := by decide

theorem witness_TransmitByteEnds :
    (driving 0 7 57).cfg.structural = true ∧ (driving 0 7 57).st = .transmitByte
      ∧ nextIs (exec .transmitByte (driving 0 7 57)) (fun t => t.st = .receiveByte) = true := by decide

theorem witness_ReceiveByteEnds :
    (ending 7 0xC3 569).cfg.structural = true ∧ (ending 7 0xC3 569).st = .receiveByte
      ∧ nextIs (exec .receiveByte (ending 7 0xC3 569)) (fun t => t.st = .awaitStart) = true
      ∧ nextIs (exec .receiveByte (ending 0 0xC3 65)) (fun t => t.st = .transmitByte) = true := by decide

theorem witness_EveryCallEnds :
    idle.cfg.structural = true ∧ idle.input.rst = false ∧ idle.st = .idle
      ∧ { idle with st := .desyncFailure }.st = .desyncFailure ∧ (waiting 0).busy = true := by decide

/-- A failure entry from AWAIT_START, and one from a late drive. -/
theorem witness_FailureEntry :
    (waiting 800).cfg.structural = true ∧ (waiting 800).input.rst = false ∧ (waiting 800).busy = true
      ∧ nextIs (step (waiting 800)) (fun t => t.st = .desyncFailure) = true
      ∧ nextIs (step (driving 0 0 2)) (fun t => t.st = .desyncFailure && t.cause = .timingViolation) = true := by decide

theorem witness_WhenLinkTimeout :
    (waiting 800).cfg.structural = true ∧ (waiting 800).input.rst = false ∧ (waiting 800).busy = true
      ∧ (waiting 800).startEdge = false ∧ awaitBound (waiting 800) ≤ (waiting 800).elapsed := by decide

theorem witness_FailureExit :
    ({ idle with st := .desyncFailure }.withFetchWord 16 0x1001).cfg.structural = true
      ∧ ({ idle with st := .desyncFailure }.withFetchWord 16 0x1001).st = .desyncFailure
      ∧ ({ idle with st := .desyncFailure }.withFetchWord 16 0x1001).input.rst = false
      ∧ acceptedBegin ({ idle with st := .desyncFailure }.withFetchWord 16 0x1001) = true := by decide

theorem witness_NoTimingViolationOnSchedule :
    (driving 0 0 1).cfg.structural = true ∧ (driving 0 0 1).cfg.Scheduled ∧ OnSchedule (driving 0 0 1) :=
  ⟨by decide, by decide, by show (driving 0 0 1).elapsed ≤ Config.pTest.driveTarget 0 0; decide⟩

/-- A start window at its deadline, with parameters that break the schedule constraints. -/
theorem witness_NoTimingViolationOnSchedule_window :
    (window 4).cfg.structural = true ∧ (window 4).st = .startConfirmed ∧ (window 4).elapsed ≤ (window 4).cfg.tStart
      ∧ { window 4 with cfg := { Config.pTest with sampleAt := 0 } }.cfg.structural = true
      ∧ ¬ { window 4 with cfg := { Config.pTest with sampleAt := 0 } }.cfg.Scheduled := by decide

theorem witness_FsmTransitions : (waiting 800).cfg.structural = true ∧ (waiting 800).input.rst = false := by decide

theorem witness_OutputQuietOutsideCalls :
    idle.cfg.structural = true ∧ idle.input.rst = false ∧ idle.busy = false ∧ acceptedBegin idle = false := by decide

/-- A host write of byte 7, and a byte end. -/
theorem witness_FrameWriters :
    (idle.withFetchWord 16 0x1FC3).cfg.structural = true ∧ (idle.withFetchWord 16 0x1FC3).input.rst = false
      ∧ (idle.withFetchWord 16 0x1FC3).input.hAddr = 1#1 ++ 7#3 ∧ byteEndCycle 0 (ending 0 0xA7 65) = true := by decide

theorem witness_ConfigWriters :
    (idle.withFetchWord 16 0x12FE).cfg.structural = true ∧ (idle.withFetchWord 16 0x12FE).input.rst = false
      ∧ (idle.withFetchWord 16 0x12FE).busy = false ∧ (idle.withFetchWord 16 0x12FE).input.hAddr = 0x2 := by decide

/-- Each clause: DONE set by a refused LOOP and by the last byte end, and cleared by LOOP; OK set and cleared. -/
theorem witness_ResultFlagWriters :
    (State.reset.withFetchWord 16 0x1002).cfg.structural = true ∧ (State.reset.withFetchWord 16 0x1002).input.rst = false
      ∧ refusedLoop (State.reset.withFetchWord 16 0x1002) = true
      ∧ nextIs (hostStep State.reset 0x1002) (fun t => t.done) = true
      ∧ nextIs (step { ending 7 0xC3 569 with rep := 3 }) (fun t => t.done && t.ok) = true
      ∧ nextIs (hostStep { idle with st := .success, done := true, ok := true } 0x1002)
          (fun t => !t.done && !t.ok) = true := by decide

theorem witness_CauseIsInvisible :
    (waiting 5).cfg.structural = true ∧ SameButCause (waiting 5) { waiting 5 with cause := .notReady } :=
  ⟨by decide, rfl⟩

end Sys2Proof.Tests
end

section
/-! PROOFS. The step of a cycle with rst = 1, and the registers it leaves (10_state.md R60). -/

namespace Sys2Proof.Laws

open Sys2Proof.Machine

/-- A step with rst = 1 is the reset cycle: it runs neither the host transaction nor the FSM
(70_reset_and_hazards.md R260). -/
theorem step_of_rst (s : State) (h : s.cfg.structural = true) (hr : s.input.rst = true) :
    step s = .next (resetCycle s) :=
  calc step s = elaborated s (resetCycle s) := if_pos hr
    _ = .next (resetCycle s) := elaborated_of_structural s (resetCycle s) h

/-- After a reset cycle every byte of the frame buffer is the idle byte of the polarity. -/
@[simp] theorem frameByte_resetCycle (s : State) (i : Index) : (resetCycle s).frameByte i = s.cfg.idleByte :=
  Vector.getElem_replicate i.isLt

/-- Settles O9: the step is the reset cycle, which takes every register from `State.resetWith` and the frame buffer
from the idle byte. -/
theorem resetGivesResetValues : Obligations.ResetGivesResetValues := by
  intro s hs hr
  have hframe : ∀ i, (resetCycle s).frameByte i = if s.cfg.oneAsserts then 0x00 else 0xFF :=
    frameByte_resetCycle s
  exact ⟨resetCycle s, step_of_rst s hs hr, rfl, rfl, rfl, rfl, rfl, rfl, rfl, rfl, rfl, rfl, rfl, rfl, rfl, rfl, rfl,
    rfl, rfl, rfl, rfl, rfl, rfl, hframe, rfl⟩

end Sys2Proof.Laws
end

section
/-! PROOFS. The step of a cycle with rst = 0: its parts, run one after the other, make the writes of the simultaneous
cycle (42_transceiver.md R200), so the background operations run in it whatever the selector and the host do
(30_encoding.md R103). -/

namespace Sys2Proof.Laws

open Sys2Proof.Machine

/-- The host's transaction and then the micro-operation of the selector at the cycle's start: while busy the host has
written at most IGN, which the FSM does not read; otherwise the FSM holds. -/
theorem fsmPhase_hostPart (s : State) (h : s.cfg.structural = true) :
    fsmPhase s.selector { hostPart s with rdata := s.hRdata } = .next { hostAndFsm s with rdata := s.hRdata } := by
  rw [fsmPhase_eq]
  cases hb : s.busy with
  | false =>
    have hcfg : (hostPart s).cfg.structural = true := (hostPart_sameBackground s).cfg ▸ h
    have hready : hostAndFsm s = hostPart s := by simp [hostAndFsm, hb]
    rw [hready]
    exact exec_hold s { hostPart s with rdata := s.hRdata } hb hcfg
  | true =>
    have hbusy : hostAndFsm s = { fsmPart s with ign := (hostPart s).ign } := if_pos hb
    have hhost : { hostPart s with rdata := s.hRdata } = withRead s.hRdata (hostPart s).ign s := by
      rw [hostPart_busy s hb]; rfl
    rw [hbusy, hhost]
    calc exec (decodeSelector s.selector) (withRead s.hRdata (hostPart s).ign s)
        = .next (fsmPart (withRead s.hRdata (hostPart s).ign s)) :=
          exec_selector (withRead s.hRdata (hostPart s).ign s) h
      _ = .next (withRead s.hRdata (hostPart s).ign (fsmPart s)) := by rw [fsmPart_withRead]

/-- Neither the host nor the FSM writes a register that the background operations read. -/
theorem hostAndFsm_sameBackground (s : State) : SameBackground (hostAndFsm s) s := by
  have hf := fsmPart_sameBackground s
  unfold hostAndFsm
  split
  · exact ⟨hf.cfg, hf.now, hf.sync1, hf.sync2, hf.inDb, hf.dbCnt, hf.idleRun, hf.input⟩
  · exact hostPart_sameBackground s

/-- The background operations after the host and the FSM write what they would write from the cycle's start. -/
theorem backgroundPhase_hostAndFsm (s : State) (h : s.cfg.structural = true) :
    backgroundPhase { hostAndFsm s with rdata := s.hRdata }
      = .next { backgroundPart s (hostAndFsm s) with rdata := s.hRdata } := by
  have hu := hostAndFsm_sameBackground s
  have hr : SameBackground { hostAndFsm s with rdata := s.hRdata } s :=
    ⟨hu.cfg, hu.now, hu.sync1, hu.sync2, hu.inDb, hu.dbCnt, hu.idleRun, hu.input⟩
  rw [backgroundPhase_eq _ (hr.cfg ▸ h), backgroundPart_congr hr]
  rfl

/-- A cycle with rst = 0 is the three parts of R200 on the values at its start. -/
theorem cycle_of_not_rst (s : State) (hr : s.input.rst = false) :
    cycle s = nextInput { backgroundPart s (hostAndFsm s) with rdata := s.hRdata } := by
  simp [cycle, hr]

/-- A step with rst = 0 is the simultaneous cycle of R200. -/
theorem step_of_not_rst (s : State) (h : s.cfg.structural = true) (hr : s.input.rst = false) :
    step s = .next (cycle s) := by
  have hrun : step s = runCycle s := by simp [step, hr]
  rw [hrun, cycle_of_not_rst s hr, runCycle, hostPhase_eq s h, andThen_next, fsmPhase_hostPart s h, andThen_next,
    backgroundPhase_hostAndFsm s h, andThen_next]

/-- Settles O33: with rst = 0 the step is the simultaneous cycle, whose background part takes every value it writes
from the state at the cycle's start. -/
theorem backgroundRunsAlways : Obligations.BackgroundRunsAlways := by
  intro s hs hr
  refine ⟨cycle s, step_of_not_rst s hs hr, ?_⟩
  rw [cycle_of_not_rst s hr]
  exact ⟨rfl, rfl, rfl, rfl, rfl, rfl, rfl⟩

end Sys2Proof.Laws
end

section
/-! PROOFS. What a host transaction does, by its address (40_host_commands.md R120 to R132): the row its word decodes to,
the write or the read of its address, and the write gate. -/

namespace Sys2Proof.Laws

open Sys2Proof.Machine

/-! ### The row a host word selects -/

theorem decodeHost_write (a : Addr) (d : Byte) : decodeHost (1#1 ++ a ++ d) = decodeWrite a d :=
  decodeHost_fields 1#1 a d

theorem decodeHost_read (a : Addr) (d : Byte) : decodeHost (0#1 ++ a ++ d) = decodeRead a d :=
  decodeHost_fields 0#1 a d

/-- A frame transaction's word is one to the address with bit 3 set and the byte's index below it. -/
theorem frameWord_fields (we : BitVec 1) (n : Index) (d : Byte) :
    (we ++ 1#1 ++ n ++ d : HostWord) = we ++ (1#1 ++ n : Addr) ++ d :=
  congrArg (· ++ d) (BitVec.append_assoc (x₁ := we) (x₂ := 1#1) (x₃ := n))

/-- The command bits of a CTRL write, from its two low data bits. -/
theorem getLsbD_of_lowTwo (d : Byte) (c : BitVec 2) (h : d.extractLsb' 0 2 = c) :
    d.getLsbD 0 = c.getLsbD 0 ∧ d.getLsbD 1 = c.getLsbD 1 := by
  subst h
  simp

/-- A CTRL write selects its row by the command bits, BEGIN before LOOP (30_encoding.md R93). -/
theorem decodeWrite_ctrl (d : Byte) :
    decodeWrite 0#4 d = if d.getLsbD 0 then .begin (d.extractLsb' 1 7)
      else if d.getLsbD 1 then .loop (d.extractLsb' 2 6) else .ctrlNop (d.extractLsb' 2 6) := if_pos rfl

/-- The address 0x8 + n is the address of frame byte n. -/
theorem frameAddr_fields (n : Index) :
    (1#1 ++ n : Addr).getLsbD 3 = true ∧ (1#1 ++ n : Addr).extractLsb' 0 3 = n
      ∧ (1#1 ++ n : Addr) ≠ 0x0 ∧ (1#1 ++ n : Addr) ≠ 0x1 ∧ (1#1 ++ n : Addr) ≠ 0x2 ∧ (1#1 ++ n : Addr) ≠ 0x3 := by
  revert n
  decide

theorem decodeWrite_frame (n : Index) (v : Byte) : decodeWrite (1#1 ++ n) v = .wrFrame n v := by
  obtain ⟨hbit, hidx, h0, h1, h2, h3⟩ := frameAddr_fields n
  rw [decodeWrite, if_neg h0, if_neg h1, if_neg h2, if_neg h3, if_pos hbit, hidx]

theorem decodeRead_frame (n : Index) (d : Byte) : decodeRead (1#1 ++ n) d = .rdFrame n d := by
  obtain ⟨hbit, hidx, h0, h1, h2, h3⟩ := frameAddr_fields n
  rw [decodeRead, if_neg h0, if_neg h1, if_neg h2, if_neg h3, if_pos hbit, hidx]

theorem hostRead_frame (n : Index) (s : State) : s.hostRead (1#1 ++ n) = s.frameByte n := by
  obtain ⟨hbit, hidx, -, h1, h2, -⟩ := frameAddr_fields n
  rw [State.hostRead, if_neg h1, if_neg h2, if_pos hbit, hidx]

/-! ### What the transaction at an address does -/

theorem exec_writeWord (a : Addr) (v : Byte) (s : State) (h : s.cfg.structural = true) :
    exec (decodeHost (1#1 ++ a ++ v)) s = .next (hostWrite a v s) := by
  rw [decodeHost_write, exec_decodeWrite a v s h]

theorem exec_readWord (a : Addr) (d : Byte) (s : State) (h : s.cfg.structural = true) :
    exec (decodeHost (0#1 ++ a ++ d)) s = .next { s with rdata := s.hostRead a } := by
  rw [decodeHost_read, exec_decodeRead a d s h, readEffect]

/-- A write to CTRL, CONFIG or FRAMEn while busy only sets IGN (R120, R130). -/
theorem hostWrite_gated (a : Addr) (v : Byte) (s : State) (hb : s.busy = true)
    (ha : a = 0x0 ∨ a = 0x2 ∨ a.getLsbD 3 = true) : hostWrite a v s = { s with ign := true } := by
  have hg : ∀ t, gated s t = { s with ign := true } := fun t => gated_busy s t hb
  unfold hostWrite
  split
  · split
    · exact hg _
    · split <;> exact hg _
  · next h0 =>
    split
    · exact hg _
    · next h2 =>
      rw [if_pos ((ha.resolve_left h0).resolve_left h2)]
      exact hg _

/-- A write to any other address has no effect, busy or not (R131, R132). -/
theorem hostWrite_ungated (a : Addr) (v : Byte) (s : State) (ha : ¬ (a = 0x0 ∨ a = 0x2 ∨ a.getLsbD 3 = true)) :
    hostWrite a v s = s := by
  obtain ⟨h0, h23⟩ := not_or.mp ha
  obtain ⟨h2, h3⟩ := not_or.mp h23
  rw [hostWrite, if_neg h0, if_neg h2, if_neg h3]

/-- STATUS and the reserved addresses are neither CTRL nor CONFIG nor FRAMEn. -/
theorem statusOrReserved_ungated (a : Addr) (h : a = 0x1 ∨ (0x3 ≤ a ∧ a ≤ 0x7)) :
    ¬ (a = 0x0 ∨ a = 0x2 ∨ a.getLsbD 3 = true) := by
  revert a
  decide

/-- The reserved addresses read 0x00 in every state (R132). -/
theorem hostRead_reserved (a : Addr) (s : State) (hlo : 0x3 ≤ a) (hhi : a ≤ 0x7) : s.hostRead a = 0x00 := by
  have h1 : a ≠ 0x1 := by rintro rfl; exact absurd hlo (by decide)
  obtain ⟨-, h23⟩ := not_or.mp (statusOrReserved_ungated a (.inr ⟨hlo, hhi⟩))
  obtain ⟨h2, h3⟩ := not_or.mp h23
  rw [State.hostRead, if_neg h1, if_neg h2, if_neg h3]

/-! ### The statements -/

/-- Settles O13: the word's meaning is the write or the read of its address, and the write gate goes by the address. -/
theorem writeGate : Obligations.WriteGate := by
  intro s a v hs hb
  refine ⟨fun ha => ?_, fun ha => ?_, ?_⟩ <;> rw [runWord_host]
  · rw [exec_writeWord a v s hs, hostWrite_gated a v s hb ha]
  · rw [exec_writeWord a v s hs, hostWrite_ungated a v s (statusOrReserved_ungated a ha)]
  · exact exec_readWord a v s hs

/-- Settles O25: not busy, the write is `setFrame`, and FRAMEn is read back from the byte it set. -/
theorem writeFrameStagesByte : Obligations.WriteFrameStagesByte := by
  intro n v s hs
  have hexec : exec (.wrFrame n v) s = .next (gated s (s.setFrame n v)) := elaborated_of_structural s _ hs
  refine ⟨?_, fun hb => ?_, fun hb => ⟨s.setFrame n v, ?_, rfl, ?_, fun k hk => ?_⟩⟩
  · rw [frameWord_fields, decodeHost_write, decodeWrite_frame]
  · rw [hexec, gated_busy s _ hb]
  · rw [hexec, gated_ready s _ hb]
  · rw [hostRead_frame, frameByte_setFrame_same]
  · rw [frameByte_setFrame, if_neg hk]

/-- Settles O14: BEGIN is a gated write. -/
theorem beginConfiguresLine : Obligations.BeginConfiguresLine := by
  intro d s hs
  refine ⟨fun h0 => ?_, fun x => elaborated_of_structural s (beginEffect s) hs⟩
  rw [decodeHost_write, decodeWrite_ctrl, if_pos h0]

/-- Settles O15: LOOP is a gated write, accepted in IDLE and SUCCESS and refused with NotReady otherwise. -/
theorem loopStartsCall : Obligations.LoopStartsCall := by
  intro d s hs
  refine ⟨fun h => ?_, fun x => elaborated_of_structural s (loopEffect s) hs⟩
  obtain ⟨h0, h1⟩ := getLsbD_of_lowTwo d _ h
  rw [decodeHost_write, decodeWrite_ctrl, h0, h1]
  rfl

/-- Settles O17: CTRL_NOP is a gated write of nothing. -/
theorem ctrlNopOnlySetsIgn : Obligations.CtrlNopOnlySetsIgn := by
  intro d s hs h
  refine ⟨?_, fun x => elaborated_of_structural s (ctrlNopEffect s) hs⟩
  obtain ⟨h0, h1⟩ := getLsbD_of_lowTwo d _ h
  rw [decodeHost_write, decodeWrite_ctrl, h0, h1]
  rfl

/-- Settles O18: CTRL has no storage, so its read shows 0x00. -/
theorem readCtrlIsZero : Obligations.ReadCtrlIsZero := fun d s hs =>
  ⟨decodeHost_read 0x0 d, elaborated_of_structural s (readEffect 0x00 s) hs⟩

/-- The fields of STATUS (10_state.md R33). -/
theorem status_fields (s : State) :
    s.status.getLsbD 7 = false ∧ s.status.getLsbD 6 = s.ign ∧ s.status.getLsbD 5 = s.ok ∧ s.status.getLsbD 4 = s.done
      ∧ s.status.getLsbD 3 = s.busy ∧ s.status.extractLsb' 0 3 = s.st.code := by
  refine ⟨?_, ?_, ?_, ?_, ?_, BitVec.extractLsb'_append_eq_right⟩
  all_goals
    simp only [State.status, BitVec.getLsbD_append]
    simp

/-- Settles O19: the read shows STATUS, field by field. -/
theorem readStatusFields : Obligations.ReadStatusFields := fun d s hs =>
  ⟨decodeHost_read 0x1 d, s.status, elaborated_of_structural s (readEffect s.status s) hs, status_fields s⟩

/-- The fields of CONFIG (10_state.md R34). -/
theorem configByte_fields (s : State) :
    s.configByte.extractLsb' 0 2 = s.repeatsM1 ∧ s.configByte.extractLsb' 2 6 = 0#6 :=
  ⟨BitVec.extractLsb'_append_eq_right, BitVec.extractLsb'_append_eq_left⟩

/-- Settles O20: the read shows CONFIG, whose reset value has a repeat count of 3. -/
theorem readConfig : Obligations.ReadConfig :=
  ⟨fun d s hs =>
    ⟨decodeHost_read 0x2 d, s.configByte, elaborated_of_structural s (readEffect s.configByte s) hs,
      configByte_fields s⟩,
    fun p => by rw [show (State.resetWith p).configByte = 0#6 ++ 3#2 from rfl]; rfl⟩

/-- Settles O21: the read shows the byte of the frame buffer. -/
theorem readFrame : Obligations.ReadFrame := by
  intro n d s hs
  refine ⟨?_, elaborated_of_structural s (readEffect (s.frameByte n) s) hs⟩
  rw [frameWord_fields, decodeHost_read, decodeRead_frame]

/-- Settles O22: a reserved address reads 0x00 and is not written; the four rows do the same. -/
theorem reservedAddresses : Obligations.ReservedAddresses := by
  refine ⟨fun a d s hs hlo hhi => ⟨?_, ?_⟩, fun a d s hs => ?_⟩
  · rw [exec_readWord a d s hs, hostRead_reserved a s hlo hhi]
  · rw [exec_writeWord a d s hs, hostWrite_ungated a d s (statusOrReserved_ungated a (.inr ⟨hlo, hhi⟩))]
  · have hread := elaborated_of_structural s (readEffect 0x00 s) hs
    have hwrite := elaborated_of_structural s s hs
    exact ⟨hread, hread, hwrite, hwrite⟩

/-- Settles O23: STATUS is not written, and its write does not go through the write gate. -/
theorem writeStatusIgnored : Obligations.WriteStatusIgnored := fun d s hs =>
  ⟨decodeHost_write 0x1 d, elaborated_of_structural s s hs⟩

/-- Settles O24: WR_CONFIG is a gated write of the repeat count. -/
theorem writeConfig : Obligations.WriteConfig := fun d s hs =>
  ⟨decodeHost_write 0x2 d, fun _ r => elaborated_of_structural s (configEffect r s) hs⟩

end Sys2Proof.Laws
end

section
/-! PROOFS. IGN after a cycle (40_host_commands.md R130). -/

namespace Sys2Proof.Laws

open Sys2Proof.Machine Sys2Proof.Safety

/-- The FSM does not write IGN, so a cycle leaves it as the host part does. -/
theorem cycle_ign (s : State) (hr : s.input.rst = false) : (cycle s).ign = (hostPart s).ign := by
  have h : (hostAndFsm s).ign = (hostPart s).ign := by
    unfold hostAndFsm
    split <;> rfl
  rw [cycle_of_not_rst s hr]
  exact h

/-- While busy a write sets IGN exactly if its address is gated, and no write clears it. -/
theorem hostWrite_ign_busy (a : Addr) (v : Byte) (s : State) (hb : s.busy = true) :
    (hostWrite a v s).ign = ((a == 0x0 || (a == 0x2 || a.getLsbD 3)) || s.ign) := by
  by_cases ha : a = 0x0 ∨ a = 0x2 ∨ a.getLsbD 3 = true
  · have hg : (a == 0x0 || (a == 0x2 || a.getLsbD 3)) = true := by simpa using ha
    rw [hostWrite_gated a v s hb ha, hg, Bool.true_or]
  · have hg : (a == 0x0 || (a == 0x2 || a.getLsbD 3)) = false := by simpa using ha
    rw [hostWrite_ungated a v s ha, hg, Bool.false_or]

/-- A LOOP that is not gated clears IGN exactly if it is accepted. -/
theorem loopEffect_ign_ready (s : State) (hb : s.busy = false) :
    (loopEffect s).ign = (s.ign && !(s.st == .idle || s.st == .success)) := by
  rcases loopEffect_cases s with ⟨h, -⟩ | ⟨h | h, e⟩ | ⟨h | h, e⟩
  · exact absurd h (by simp [hb])
  all_goals simp [e, h, loopAccepted]

/-- While not busy a write clears IGN exactly if it is a BEGIN or an accepted LOOP, and no write sets it. -/
theorem hostWrite_ign_ready (a : Addr) (v : Byte) (s : State) (hb : s.busy = false) :
    (hostWrite a v s).ign
      = (s.ign && !(a == 0x0 && (v.getLsbD 0 || v.getLsbD 1 && (s.st == .idle || s.st == .success)))) := by
  by_cases h0 : a = 0x0
  · rw [hostWrite, if_pos h0]
    subst h0
    cases hB : v.getLsbD 0
    · cases hL : v.getLsbD 1
      · simp [ctrlNopEffect, gated_ready s _ hb]
      · simp [loopEffect_ign_ready s hb]
    · simp [beginEffect, gated_ready s _ hb]
  · have hc : (a == 0x0) = false := beq_eq_false_iff_ne.mpr h0
    rw [hostWrite, if_neg h0, hc]
    simp only [configEffect, frameEffect, gated_ready s _ hb]
    split
    · simp
    · split <;> simp

/-- A busy block accepts neither BEGIN nor LOOP. -/
theorem not_accepted_busy (s : State) (hb : s.busy = true) : acceptedBegin s = false ∧ acceptedLoop s = false := by
  refine ⟨by simp [acceptedBegin, hb], ?_⟩
  cases hst : s.st <;> simp_all [acceptedLoop, State.busy, FsmState.isBusy]

theorem hostPart_ign_busy (s : State) (hb : s.busy = true) : (hostPart s).ign = (gatedWrite s || s.ign) := by
  unfold hostPart gatedWrite
  cases s.input.hSel && s.input.hWe
  · rfl
  · simp [hostWrite_ign_busy _ _ s hb, Bool.or_assoc]

theorem hostPart_ign_ready (s : State) (hb : s.busy = false) :
    (hostPart s).ign = (s.ign && (!acceptedBegin s && !acceptedLoop s)) := by
  unfold hostPart acceptedBegin acceptedLoop beginWritten loopWritten
  cases s.input.hSel && s.input.hWe
  · simp
  · rw [if_pos rfl, hostWrite_ign_ready _ _ s hb, hb]
    cases s.input.hAddr == 0x0 <;> cases s.input.hWdata.getLsbD 0 <;> simp

/-- Settles O26: a cycle leaves IGN as the host part does, which sets it while busy and clears it while not busy. -/
theorem ignSetAndCleared : Obligations.IgnSetAndCleared := by
  intro s hs hr
  refine ⟨cycle s, step_of_not_rst s hs hr, ?_⟩
  rw [cycle_ign s hr]
  cases hb : s.busy with
  | true => simp [hostPart_ign_busy s hb, not_accepted_busy s hb]
  | false => simp [hostPart_ign_ready s hb]

end Sys2Proof.Laws
end

section
/-! PROOFS. A cycle with no transaction (40_host_commands.md R133): the inputs reach it only through lanc_in and the
value that h_rdata shows. -/

namespace Sys2Proof.Laws

open Sys2Proof.Machine Sys2Proof.Safety

/-- The FSM reads no input and decides none: in each branch of a micro-operation the inputs pass it by. -/
theorem fsmPart_withInput (s : State) (j : Input) : fsmPart (s.withInput j) = (fsmPart s).withInput j := by
  unfold fsmPart awaitBody windowBody driveBody byteEndBody sampleBody deadline sampleAction byteEndAction
    repeatDecision
  rw [withInput_st]
  cases s.st
  all_goals simp only [apply_ite (State.withInput · j)]
  all_goals rfl

/-- The debounce filter reads no input and decides none. -/
theorem debounceEffect_withInput (s : State) (j : Input) :
    debounceEffect (s.withInput j) = (debounceEffect s).withInput j := by
  unfold debounceEffect
  simp only [apply_ite (State.withInput · j)]
  rfl

/-- With no transaction the host part does nothing, so the host and the FSM together are the FSM. -/
theorem hostAndFsm_noTransaction (s : State) (h : s.input.hSel = false) : hostAndFsm s = fsmPart s := by
  have hhost : hostPart s = s := by simp [hostPart, h]
  unfold hostAndFsm
  cases hb : s.busy with
  | false => simp [hhost, fsmPart_ready s hb]
  | true => rw [if_pos rfl, hhost, fsmPart_frame s]

/-- In a cycle with no transaction the inputs reach sync1 and the value h_rdata shows, and nothing else. -/
theorem cycle_noTransaction (s : State) (j : Input) (hr : j.rst = false) (h : j.hSel = false) :
    cycle (s.withInput j)
      = { nextInput (backgroundPart s (fsmPart s)) with sync1 := j.lancIn, rdata := s.hostRead j.hAddr } := by
  rw [cycle_of_not_rst (s.withInput j) hr, hostAndFsm_noTransaction (s.withInput j) h, fsmPart_withInput]
  unfold backgroundPart
  rw [debounceEffect_withInput, fsmPart_frame s]
  rfl

/-- Two inputs without a transaction, with the same rst and lanc_in, give the same step but for the value read. -/
theorem step_noTransaction_sameButRead (s : State) (j k : Input) (hs : s.cfg.structural = true)
    (hrst : k.rst = j.rst) (hline : k.lancIn = j.lancIn) (hj : j.hSel = false) (hk : k.hSel = false) :
    ∃ t u, step (s.withInput j) = .next t ∧ step (s.withInput k) = .next u ∧ SameButRead t u := by
  cases hr : j.rst with
  | true => exact ⟨_, _, step_of_rst (s.withInput j) hs hr, step_of_rst (s.withInput k) hs (hrst.trans hr), rfl⟩
  | false =>
    have hr' : k.rst = false := hrst.trans hr
    refine ⟨_, _, step_of_not_rst (s.withInput j) hs hr, step_of_not_rst (s.withInput k) hs hr', ?_⟩
    rw [cycle_noTransaction s j hr hj, cycle_noTransaction s k hr' hk, hline]
    rfl

/-- Settles O27: h_we, h_addr and h_wdata are neither rst nor lanc_in. -/
theorem noTransactionNoEffect : Obligations.NoTransactionNoEffect := fun s j we a v hs hsel =>
  step_noTransaction_sameButRead s j { j with hWe := we, hAddr := a, hWdata := v } hs rfl rfl hsel hsel

end Sys2Proof.Laws
end

section
/-! PROOFS. The timestamp counter and the Link Synchronizer's micro-operations (41_synchronizer.md R150, R160 to
R163). -/

namespace Sys2Proof.Laws

open Sys2Proof.Machine

/-- Settles O30: the count is the operation's one write, and a step with rst = 0 runs it whatever the FSM state. -/
theorem timestampCounts : Obligations.TimestampCounts := by
  intro s hs
  refine ⟨elaborated_of_structural s (timestampEffect s) hs, fun hr => ?_⟩
  obtain ⟨t, hstep, hnow, -⟩ := backgroundRunsAlways s hs hr
  exact ⟨t, hstep, hnow⟩

/-- In AWAIT_START the selector picks the warm or the cold wait (30_encoding.md R102). -/
theorem decodeSelector_awaitStart (s : State) (h : s.st = .awaitStart) :
    ∃ y, decodeSelector s.selector = if s.warm then .waitNextStart y else .waitForStartBit y := by
  have hd := decodeSelector_selector s
  rw [h] at hd
  cases hw : s.warm <;> simpa [hw] using hd

/-- In START_CONFIRMED the selector picks the start window (30_encoding.md R102). -/
theorem decodeSelector_startConfirmed (s : State) (h : s.st = .startConfirmed) :
    ∃ y, decodeSelector s.selector = .waitStartBitComplete y := by
  have hd := decodeSelector_selector s
  rwa [h] at hd

/-- Settles O35: both waits are the AWAIT_START body, each with its own bound. -/
theorem awaitStart : Obligations.AwaitStart := fun _ s hs =>
  ⟨elaborated_of_structural s (awaitBody s.cfg.timeoutCold s) hs,
    elaborated_of_structural s (awaitBody s.cfg.timeoutWarm s) hs, decodeSelector_awaitStart s⟩

/-- Settles O36: the start window is a deadline wait on T_START. -/
theorem startWindow : Obligations.StartWindow := by
  intro x s hs
  refine ⟨?_, decodeSelector_startConfirmed s⟩
  calc exec (.waitStartBitComplete x) s = .next (windowBody s) := elaborated_of_structural s (windowBody s) hs
    _ = _ := congrArg Host.Outcome.next (deadline_eq_ite s (windowEnd s) s.cfg.tStart)

end Sys2Proof.Laws
end

section
/-! PROOFS. The drive and the sample of a bit slot (42_transceiver.md R184 to R188). -/

namespace Sys2Proof.Laws

open Sys2Proof.Machine

/-! ### The row the selector picks -/

/-- In TRANSMIT_BYTE the selector picks the drive of the slot's bit (30_encoding.md R102). -/
theorem decodeSelector_transmitByte (s : State) (h : s.st = .transmitByte) :
    ∃ y, decodeSelector s.selector = if s.txbit then .transmitOne y else .transmitZero y := by
  have hd := decodeSelector_selector s
  rw [h] at hd
  cases hb : s.txbit <;> simpa [hb] using hd

/-- In RECEIVE_BYTE with tail = 0 the selector picks the sample (30_encoding.md R102). -/
theorem decodeSelector_receiveByte_sample (s : State) (h : s.st = .receiveByte) (ht : s.tail = false) :
    ∃ u v, decodeSelector s.selector = .receiveBit u v := by
  have hd := decodeSelector_selector s
  rw [h] at hd
  simpa [ht] using hd

/-! ### The drive -/

/-- The level of a one asserts the line exactly when ones assert (30_encoding.md R106). -/
theorem pinlevel_one (p : Config) : p.pinlevel true = if p.oneAsserts then !p.outIdle else p.outIdle := by
  cases h : p.oneAsserts <;> simp [Config.pinlevel, Config.asserts, h]

/-- The level of a zero asserts the line exactly when ones do not (30_encoding.md R106). -/
theorem pinlevel_zero (p : Config) : p.pinlevel false = if p.oneAsserts then p.outIdle else !p.outIdle := by
  cases h : p.oneAsserts <;> simp [Config.pinlevel, Config.asserts, h]

/-- The drive of the data bit b, in the order of 42_transceiver.md R181. -/
theorem driveBody_eq_ite (b : Bool) (s : State) :
    driveBody b s =
      if s.elapsed = s.cfg.driveTarget s.byteIdx s.bitIdx then
        { s with outQ := s.cfg.pinlevel b, st := .receiveByte, tail := false }
      else if s.elapsed > s.cfg.driveTarget s.byteIdx s.bitIdx then fail .timingViolation s else s :=
  deadline_eq_ite s (driveAction b s) _

/-- Settles O38: both drives are the TRANSMIT_BYTE body, each with the level of its own bit. -/
theorem driveSlot : Obligations.DriveSlot := by
  intro x s hs
  refine ⟨?_, ?_, decodeSelector_transmitByte s⟩
  · rw [← pinlevel_one]
    exact (elaborated_of_structural s (driveBody true s) hs).trans (congrArg _ (driveBody_eq_ite true s))
  · rw [← pinlevel_zero]
    exact (elaborated_of_structural s (driveBody false s) hs).trans (congrArg _ (driveBody_eq_ite false s))

/-! ### The sample -/

/-- What a sample writes, by its slot (42_transceiver.md R188). -/
theorem sampleAction_eq_ite (s : State) :
    sampleAction s =
      if s.bitIdx = 7 then
        { s with rxShift := setBit s.rxShift s.bitIdx (s.cfg.bitof s.asserted), tail := true }
      else
        { s with
          rxShift := setBit s.rxShift s.bitIdx (s.cfg.bitof s.asserted)
          st := .transmitByte
          bitIdx := s.bitIdx + 1 } := by
  by_cases h : s.bitIdx = 7
  · rw [if_pos h, sampleAction_last s h]
  · rw [if_neg h, sampleAction_inner s h]

/-- Settles O40: the sample is a deadline wait, and at the deadline rx_shift takes the decoded bit at j alone. -/
theorem sampleSlot : Obligations.SampleSlot := by
  intro w b s hs d
  have hexec : exec (.receiveBit w b) s = .next (deadline s d (sampleAction s)) :=
    elaborated_of_structural s (sampleBody s) hs
  refine ⟨fun hearly => ?_, fun hlate => ?_, fun hdue => ⟨setBit s.rxShift s.bitIdx (s.cfg.bitof s.asserted), ?_,
    fun k => bitOf_setBit s.rxShift s.bitIdx k _⟩, decodeSelector_receiveByte_sample s⟩
  · rw [hexec, deadline_early s _ d hearly]
  · rw [hexec, deadline_late s _ d hlate]
    rfl
  · rw [hexec, deadline_met s _ d hdue, sampleAction_eq_ite]

end Sys2Proof.Laws
end

section
/-! PROOFS. The exceptions (60_exceptions.md R237, R238): a LOOP refused with NotReady, and the entry into
DESYNC_FAILURE. -/

namespace Sys2Proof.Laws

open Sys2Proof.Machine

/-! ### NotReady -/

/-- No call is in progress in UNCONFIGURED and in DESYNC_FAILURE. -/
theorem busy_of_notReady (s : State) (h : s.st = .unconfigured ∨ s.st = .desyncFailure) : s.busy = false := by
  rcases h with h | h <;> simp [State.busy, FsmState.isBusy, h]

/-- LOOP in UNCONFIGURED and in DESYNC_FAILURE raises NotReady. -/
theorem loopEffect_notReady (s : State) (h : s.st = .unconfigured ∨ s.st = .desyncFailure) :
    loopEffect s = raiseNotReady s := by
  have hrefused : ¬ (s.st = .idle ∨ s.st = .success) := by rcases h with h | h <;> simp [h]
  rw [loopEffect, gated_ready s _ (busy_of_notReady s h), if_neg hrefused]

/-- After NotReady with IGN = 0, STATUS shows DONE above the code of a state that is not busy. -/
theorem raiseNotReady_status (s : State) (hb : s.busy = false) (hi : s.ign = false) :
    (raiseNotReady s).status = 0#1 ++ 0#1 ++ 0#1 ++ 1#1 ++ 0#1 ++ s.st.code := by
  have hb' : (raiseNotReady s).busy = false := hb
  simp only [State.status, hb', raiseNotReady_ign, raiseNotReady_ok, raiseNotReady_done, raiseNotReady_st, hi]
  rfl

/-- Settles O16: in both states the write gate is open and LOOP raises NotReady, and STATUS differs by the state code
alone. -/
theorem loopRefusedNotReady : Obligations.LoopRefusedNotReady := by
  intro x s hs hst
  have hexec : exec (.loop x) s = .next (raiseNotReady s) := by
    rw [← loopEffect_notReady s hst]
    exact elaborated_of_structural s (loopEffect s) hs
  refine ⟨raiseNotReady s, hexec, rfl, fun hi => ?_⟩
  rw [raiseNotReady_status s (busy_of_notReady s hst) hi]
  rcases hst with h | h <;> rw [h] <;> rfl

/-! ### Failure entry -/

/-- A deadline wait whose action does not fail enters DESYNC_FAILURE only by TimingViolation. -/
theorem deadline_entersFailure (s t : State) (d : Nat) (hs : s.st ≠ .desyncFailure) (ht : t.st ≠ .desyncFailure)
    (h : (deadline s d t).st = .desyncFailure) : deadline s d t = fail .timingViolation s := by
  rcases deadline_cases s t d with ⟨-, e⟩ | ⟨-, e⟩ | ⟨-, e⟩
  · exact absurd (e ▸ h) hs
  · exact absurd (e ▸ h) ht
  · exact e

/-- A wait for a start edge enters DESYNC_FAILURE only by LinkTimeout. -/
theorem awaitBody_entersFailure (bound : Nat) (s : State) (hs : s.st ≠ .desyncFailure)
    (h : (awaitBody bound s).st = .desyncFailure) : awaitBody bound s = fail .linkTimeout s := by
  rcases awaitBody_cases bound s with ⟨-, e⟩ | ⟨-, -, e⟩ | ⟨-, -, e⟩
  · simp [e] at h
  · exact e
  · exact absurd (e ▸ h) hs

/-- A sample does not fail. -/
theorem sampleAction_st_ne_desyncFailure (s : State) (hs : s.st ≠ .desyncFailure) :
    (sampleAction s).st ≠ .desyncFailure := by
  by_cases h : s.bitIdx = 7
  · rw [sampleAction_last s h]
    exact hs
  · simp [sampleAction_inner s h]

/-- A byte end does not fail: it goes on to the next byte or to the repeat controller. -/
theorem byteEndAction_st_ne_desyncFailure (s : State) : (byteEndAction s).st ≠ .desyncFailure := by
  by_cases h : s.byteIdx = 7
  · rw [byteEndAction_last s h]
    by_cases hr : (releaseAndStore s).rep = (releaseAndStore s).repeatsM1
    · simp [repeatDecision_last _ hr]
    · simp [repeatDecision_more _ hr]
  · simp [byteEndAction_inner s h]

/-- The cause of a failure of the FSM in the state `f` (60_exceptions.md R231, R232, R236). -/
def failureCause (f : FsmState) : Cause := if f = .awaitStart then .linkTimeout else .timingViolation

/-- The FSM of a busy block enters DESYNC_FAILURE only by the failure entry, with the cause of its state. -/
theorem fsmPart_entersFailure (s : State) (hb : s.busy = true) (h : (fsmPart s).st = .desyncFailure) :
    fsmPart s = fail (failureCause s.st) s := by
  have hne : s.st ≠ .desyncFailure := fun hst => by simp [busy_of_notReady s (.inr hst)] at hb
  unfold fsmPart at h ⊢
  cases hst : s.st <;> simp only [hst] at h ⊢
  case awaitStart => exact awaitBody_entersFailure _ s hne h
  case startConfirmed => exact deadline_entersFailure s (windowEnd s) _ hne (by simp [windowEnd]) h
  case transmitByte => exact deadline_entersFailure s (driveAction s.txbit s) _ hne (by simp [driveAction]) h
  case receiveByte =>
    cases ht : s.tail <;> simp only [ht, Bool.false_eq_true, if_false, if_true] at h ⊢
    · exact deadline_entersFailure s (sampleAction s) _ hne (sampleAction_st_ne_desyncFailure s hne) h
    · exact deadline_entersFailure s (byteEndAction s) _ hne (byteEndAction_st_ne_desyncFailure s) h
  all_goals simp [State.busy, FsmState.isBusy, hst] at hb

/-- In a busy cycle with rst = 0 the FSM writes every register but IGN and those of the background. -/
theorem cycle_of_busy (s : State) (hr : s.input.rst = false) (hb : s.busy = true) :
    cycle s
      = nextInput { backgroundPart s { fsmPart s with ign := (hostPart s).ign } with rdata := s.hRdata } := by
  rw [cycle_of_not_rst s hr, hostAndFsm, if_pos hb]

/-- Settles O51: a busy cycle takes the FSM's registers from the FSM part, which enters DESYNC_FAILURE only by the
failure entry. -/
theorem failureEntry : Obligations.FailureEntry := by
  intro s hs hr hb
  refine ⟨cycle s, step_of_not_rst s hs hr, ?_⟩
  rw [cycle_of_busy s hr hb]
  intro hst
  rw [fsmPart_entersFailure s hb hst]
  exact ⟨rfl, rfl, rfl, rfl, rfl, rfl, rfl, rfl, rfl, rfl, rfl, rfl, rfl⟩

end Sys2Proof.Laws
end

section
/-! PROOFS. The two opcode maps (30_encoding.md R93, R102): each row's word decodes to the row, and each word is the
encoding of the row it decodes to. -/

namespace Sys2Proof.Laws

open Sys2Proof.Machine

/-! ### The fields of a host word -/

/-- The word of a CTRL write of BEGIN, whose data are the ignored bits above the command bit. -/
theorem beginWord_fields (x : BitVec 7) : (1#1 ++ 0x0#4 ++ x ++ 1#1 : HostWord) = 1#1 ++ 0x0#4 ++ (x ++ 1#1 : Byte) :=
  BitVec.append_assoc (x₁ := 1#1 ++ 0x0#4) (x₂ := x) (x₃ := 1#1)

/-- The word of a write whose data are six bits above a field of two. -/
theorem lowTwoWord_fields (a : Addr) (x : BitVec 6) (c : BitVec 2) :
    (1#1 ++ a ++ x ++ c : HostWord) = 1#1 ++ a ++ (x ++ c : Byte) :=
  BitVec.append_assoc (x₁ := 1#1 ++ a) (x₂ := x) (x₃ := c)

/-- The word of a transaction at the addresses 0x4 to 0x7. -/
theorem reservedWord_fields (we : BitVec 1) (a : BitVec 2) (d : Byte) :
    (we ++ 0b01#2 ++ a ++ d : HostWord) = we ++ (0b01#2 ++ a : Addr) ++ d :=
  congrArg (· ++ d) (BitVec.append_assoc (x₁ := we) (x₂ := 0b01#2) (x₃ := a))

/-- A byte with bit 0 set is its upper seven bits above a one. -/
theorem byte_of_command (d : Byte) (h : d.getLsbD 0 = true) : (d.extractLsb' 1 7 ++ 1#1 : Byte) = d := by
  revert d
  decide

/-- A byte is its upper six bits above its two lowest. -/
theorem byte_of_lowTwo (d : Byte) : (d.extractLsb' 2 6 ++ d.extractLsb' 0 2 : Byte) = d := by
  revert d
  decide

/-- The two command bits of a CTRL write without BEGIN. -/
theorem lowTwo_of_bits (d : Byte) (h0 : d.getLsbD 0 = false) :
    d.extractLsb' 0 2 = if d.getLsbD 1 then 0b10#2 else 0b00#2 := by
  revert d
  decide

/-- An address with bit 3 set is that of a frame byte. -/
theorem addr_of_frame (a : Addr) (h : a.getLsbD 3 = true) : 1#1 ++ a.extractLsb' 0 3 = a := by
  revert a
  decide

/-- An address that no other row has is one of 0x4 to 0x7. -/
theorem addr_of_reserved (a : Addr) (h0 : a ≠ 0) (h1 : a ≠ 1) (h2 : a ≠ 2) (h3 : a ≠ 3) (hb : ¬ a.getLsbD 3 = true) :
    0b01#2 ++ a.extractLsb' 0 2 = a := by
  revert a
  decide

/-- The address 0x4 + a is neither below 0x4 nor that of a frame byte. -/
theorem reservedAddr_fields (a : BitVec 2) :
    ¬ (0b01#2 ++ a : Addr).getLsbD 3 = true ∧ (0b01#2 ++ a : Addr).extractLsb' 0 2 = a
      ∧ (0b01#2 ++ a : Addr) ≠ 0 ∧ (0b01#2 ++ a : Addr) ≠ 1 ∧ (0b01#2 ++ a : Addr) ≠ 2 ∧ (0b01#2 ++ a : Addr) ≠ 3 := by
  revert a
  decide

theorem decodeWrite_reserved (a : BitVec 2) (d : Byte) : decodeWrite (0b01#2 ++ a) d = .wrRsvd a d := by
  obtain ⟨hbit, hlow, h0, h1, h2, h3⟩ := reservedAddr_fields a
  rw [decodeWrite, if_neg h0, if_neg h1, if_neg h2, if_neg h3, if_neg hbit, hlow]

theorem decodeRead_reserved (a : BitVec 2) (d : Byte) : decodeRead (0b01#2 ++ a) d = .rdRsvd a d := by
  obtain ⟨hbit, hlow, h0, h1, h2, h3⟩ := reservedAddr_fields a
  rw [decodeRead, if_neg h0, if_neg h1, if_neg h2, if_neg h3, if_neg hbit, hlow]

/-! ### Format H: the rows partition the words -/

/-- The row that a write decodes to encodes it, with no bit lost. -/
theorem encodeHost_decodeWrite (a : Addr) (d : Byte) : encodeHost (decodeWrite a d) = some (1#1 ++ a ++ d) := by
  unfold decodeWrite
  split
  · next ha =>
    subst ha
    split
    · next h0 => rw [encodeHost, beginWord_fields, byte_of_command d h0]; rfl
    · next h0 =>
      have hlow := lowTwo_of_bits d (by simpa using h0)
      split
      · next h1 => rw [encodeHost, lowTwoWord_fields, ← hlow.trans (if_pos h1), byte_of_lowTwo]; rfl
      · next h1 => rw [encodeHost, lowTwoWord_fields, ← hlow.trans (if_neg h1), byte_of_lowTwo]; rfl
  next h0 =>
  split
  · next h => subst h; rfl
  next h1 =>
  split
  · next h => subst h; rw [encodeHost, lowTwoWord_fields, byte_of_lowTwo]; rfl
  next h2 =>
  split
  · next h => subst h; rfl
  next h3 =>
  split
  · next hb => rw [encodeHost, frameWord_fields, addr_of_frame a hb]
  · next hb => rw [encodeHost, reservedWord_fields, addr_of_reserved a h0 h1 h2 h3 hb]

/-- The row that a read decodes to encodes it, with no bit lost. -/
theorem encodeHost_decodeRead (a : Addr) (d : Byte) : encodeHost (decodeRead a d) = some (0#1 ++ a ++ d) := by
  unfold decodeRead
  split
  · next h => subst h; rfl
  next h0 =>
  split
  · next h => subst h; rfl
  next h1 =>
  split
  · next h => subst h; rfl
  next h2 =>
  split
  · next h => subst h; rfl
  next h3 =>
  split
  · next hb => rw [encodeHost, frameWord_fields, addr_of_frame a hb]
  · next hb => rw [encodeHost, reservedWord_fields, addr_of_reserved a h0 h1 h2 h3 hb]

/-- Every host word is the encoding of the row it decodes to. -/
theorem encodeHost_decodeHost (w : HostWord) : encodeHost (decodeHost w) = some w := by
  conv_rhs => rw [hostWord_split w]
  unfold decodeHost
  cases w.getLsbD 12
  · exact encodeHost_decodeRead _ _
  · exact encodeHost_decodeWrite _ _

/-- The encoding of a row in format H decodes to the row. -/
theorem decodeHost_encodeHost (i : Instr) (w : HostWord) (h : encodeHost i = some w) : decodeHost w = i := by
  cases i <;> simp only [encodeHost, Option.some.injEq, reduceCtorEq] at h <;> subst h
  case begin x =>
    have h0 : (x ++ 1#1 : Byte).getLsbD 0 = true := by rw [BitVec.getLsbD_append]; rfl
    rw [beginWord_fields, decodeHost_write, decodeWrite_ctrl, if_pos h0, BitVec.extractLsb'_append_eq_left]
  case loop x =>
    obtain ⟨h0, h1⟩ := getLsbD_of_lowTwo (x ++ 0b10#2) _ BitVec.extractLsb'_append_eq_right
    rw [lowTwoWord_fields, decodeHost_write, decodeWrite_ctrl, h0, h1, BitVec.extractLsb'_append_eq_left]
    rfl
  case ctrlNop x =>
    obtain ⟨h0, h1⟩ := getLsbD_of_lowTwo (x ++ 0b00#2) _ BitVec.extractLsb'_append_eq_right
    rw [lowTwoWord_fields, decodeHost_write, decodeWrite_ctrl, h0, h1, BitVec.extractLsb'_append_eq_left]
    rfl
  case rdCtrl d => exact decodeHost_read 0x0 d
  case rdStatus d => exact decodeHost_read 0x1 d
  case wrStatus d => exact decodeHost_write 0x1 d
  case rdConfig d => exact decodeHost_read 0x2 d
  case wrConfig x r =>
    rw [lowTwoWord_fields, decodeHost_write]
    exact congrArg₂ Instr.wrConfig BitVec.extractLsb'_append_eq_left BitVec.extractLsb'_append_eq_right
  case rdRsvd3 d => exact decodeHost_read 0x3 d
  case rdRsvd a d => rw [reservedWord_fields, decodeHost_read, decodeRead_reserved]
  case wrRsvd3 d => exact decodeHost_write 0x3 d
  case wrRsvd a d => rw [reservedWord_fields, decodeHost_write, decodeWrite_reserved]
  case rdFrame n d => rw [frameWord_fields, decodeHost_read, decodeRead_frame]
  case wrFrame n v => rw [frameWord_fields, decodeHost_write, decodeWrite_frame]

/-! ### Format F: the rows partition the selectors -/

/-- Every selector is the encoding of the row it decodes to. -/
theorem encodeSelector_decodeSelector (w : Selector) : encodeSelector (decodeSelector w) = some w := by
  revert w
  decide

/-- The encoding of a row in format F decodes to the row. -/
theorem decodeSelector_encodeSelector (i : Instr) (w : Selector) (h : encodeSelector i = some w) :
    decodeSelector w = i := by
  cases i <;> simp only [encodeSelector, Option.some.injEq, reduceCtorEq] at h <;> subst h
  case receiveBit u v => revert u v; decide
  case byteComplete u v => revert u v; decide
  all_goals next x => revert x; decide

/-! ### The statements -/

/-- Settles O3: in both formats the encoder and the decoder undo each other. -/
theorem opcodeMapsPartition : Obligations.OpcodeMapsPartition := by
  refine ⟨fun w i => ⟨fun h => (decodeHost_encodeHost i w h).symm, ?_⟩,
    fun w i => ⟨fun h => (decodeSelector_encodeSelector i w h).symm, ?_⟩⟩
  · rintro rfl
    exact encodeHost_decodeHost w
  · rintro rfl
    exact encodeSelector_decodeSelector w

/-- Settles O2: the bytes of a word decode as the word does, and the word decodes to the row it encodes. -/
theorem decodeOfEncode : Obligations.DecodeOfEncode := by
  intro i bytes h
  unfold encode at h
  cases hw : encodeHost i with
  | some w =>
    obtain rfl : hostBytes w = bytes := by simpa [hw] using h
    rw [decode_hostBytes, decodeHost_encodeHost i w hw]
  | none =>
    obtain ⟨w, hw', rfl⟩ : ∃ w, encodeSelector i = some w ∧ selectorBytes w = bytes := by simpa [hw] using h
    rw [decode_selectorBytes, decodeSelector_encodeSelector i w hw']

/-- Settles O1: the words are closed but for the operands of SETREP and STAGE; STAGE is a write of its frame byte. -/
theorem sampleWordsDecode : Obligations.SampleWordsDecode := by
  have hstage : ∀ (n : Index) (v : Byte), (HostLine.stage n v).word.map decodeHost = some (.wrFrame n v) :=
    fun n v => congrArg some ((decodeHost_write (1#1 ++ n) v).trans (decodeWrite_frame n v))
  refine ⟨?_, ?_, ?_, ?_, ?_, ?_, ?_, ?_, ?_, ?_, ?_, ?_, ?_, ?_, ?_, ?_, ?_, hstage⟩
  all_goals decide

/-- The state with a given code has that code. -/
theorem code_ofCode (c : BitVec 3) : (FsmState.ofCode c).code = c := by
  revert c
  decide

/-- A selector is its four fields. -/
theorem selector_split (w : Selector) :
    w.extractLsb' 3 3 ++ BitVec.ofBool (w.getLsbD 2) ++ BitVec.ofBool (w.getLsbD 1) ++ BitVec.ofBool (w.getLsbD 0)
      = w := by
  revert w
  decide

/-- The slot's bit after a selector was placed is the selector's lowest bit. -/
theorem txbit_placeSelector (s : State) (w : Selector) : (s.placeSelector w).txbit = w.getLsbD 0 := by
  have hbyte : (s.placeSelector w).frameByte s.byteIdx = setBit (s.frameByte s.byteIdx) s.bitIdx (w.getLsbD 0) :=
    frameByte_setFrame_same _ _ _
  have htx : (s.placeSelector w).txbit = bitOf ((s.placeSelector w).frameByte s.byteIdx) s.bitIdx := rfl
  rw [htx, hbyte, bitOf_setBit, if_pos rfl]

/-- Settles O5: the word on the port is its three fields, and the state bits written are the selector's four. -/
theorem placedWordIsFetched : Obligations.PlacedWordIsFetched := by
  intro s w
  refine ⟨fun _ => ⟨(hostWord_split _).symm, rfl, rfl⟩, fun _ => ⟨?_, rfl, rfl⟩⟩
  calc (s.withFetchWord 8 w).selector
      = (FsmState.ofCode ((BitVec.ofNat 6 w).extractLsb' 3 3)).code ++ BitVec.ofBool ((BitVec.ofNat 6 w).getLsbD 2)
          ++ BitVec.ofBool ((BitVec.ofNat 6 w).getLsbD 1)
          ++ BitVec.ofBool (s.placeSelector (BitVec.ofNat 6 w)).txbit := rfl
    _ = BitVec.ofNat 6 w := by rw [code_ofCode, txbit_placeSelector, selector_split]

end Sys2Proof.Laws
end

section
/-! PROOFS. The step is the cycle of R200, and one that stops refuses its parameters (42_transceiver.md R200,
00_scope.md R9). -/

namespace Sys2Proof.Laws

open Sys2Proof.Machine

/-- Settles O6: a reset cycle is the same in both, and with rst = 0 the parts in sequence write what they write at
once. -/
theorem stepIsSimultaneousCycle : Obligations.StepIsSimultaneousCycle := by
  intro s hs
  cases hr : s.input.rst with
  | true => rw [step_of_rst s hs hr, cycle, if_pos hr]
  | false => exact step_of_not_rst s hs hr

/-- A cycle does not change the parameters. -/
@[simp] theorem cycle_cfg (s : State) : (cycle s).cfg = s.cfg := by
  cases hr : s.input.rst with
  | true => rw [cycle, if_pos hr]; rfl
  | false =>
    rw [cycle_of_not_rst s hr]
    exact (hostAndFsm_sameBackground s).cfg

/-- A step refuses parameters that break a constraint of R9. -/
theorem step_refused (s : State) (h : s.cfg.structural = false) : step s = .refused .illegalParameters := by
  cases hr : s.input.rst with
  | true =>
    calc step s = elaborated s (resetCycle s) := if_pos hr
      _ = .refused .illegalParameters := elaborated_of_not_structural s _ h
  | false =>
    have hrun : step s = runCycle s := by simp [step, hr]
    have hexec : ∀ i, exec i (sampleRdata s) = .refused .illegalParameters := fun i => exec_refused i _ h
    rw [hrun, runCycle, hostPhase]
    cases (sampleRdata s).input.hSel
    · simp [fsmPhase_eq, hexec, andThen]
    · simp [runWord_host, hexec, andThen]

/-- Settles O7: an admitted set steps to its cycle, and any other is refused, which is no fault. -/
theorem stepNeverStops : Obligations.StepNeverStops := by
  refine ⟨fun s hs => ⟨cycle s, stepIsSimultaneousCycle s hs⟩, fun s e => ?_⟩
  cases hs : s.cfg.structural with
  | true => simp [stepIsSimultaneousCycle s hs]
  | false => simp [step_refused s hs]

/-- Settles O8: each clause contradicts its own constraint of R9, and parameters that are not admitted are refused. -/
theorem illegalParametersRefused : Obligations.IllegalParametersRefused := by
  intro s i hbad
  have hs : s.cfg.structural = false := by
    rw [← Bool.not_eq_true, structural_iff]
    rintro ⟨⟨htw, hdb, hts, htb⟩, hend, hsample, hstart, ⟨hc1, hc2⟩, hw1, hw2⟩
    unfold Config.modulus at *
    rcases hbad with h | h | h | h | ⟨n, h⟩ | ⟨n, h⟩ | h | h | h | h | h
    case inr.inr.inr.inr.inl => exact absurd (hend n) (by omega)
    case inr.inr.inr.inr.inr.inl => exact absurd (hsample n) (by omega)
    all_goals omega
  exact ⟨step_refused s hs, exec_refused i s hs⟩

theorem andThen_assoc (r : Result) (f g : State → Result) :
    andThen (andThen r f) g = andThen r fun s => andThen (f s) g := by
  cases r <;> rfl

/-- Settles O4: each phase of the step runs the instruction that its word decodes to. -/
theorem stepRunsDecoded : Obligations.StepRunsDecoded := by
  intro s i m hr hm
  have hrun : step s = runCycle s := by simp [step, hr]
  have hfsm : fsmPhase s.selector = exec m := by
    funext t
    simp [fsmPhase, runWord, hm]
  rw [hrun, runCycle, hostPhase, show (sampleRdata s).input = s.input from rfl, hfsm]
  refine ⟨fun hsel hi => ?_, fun hsel => ?_⟩
  · have hhost : runWord (hostBytes s.input.hostWord) (sampleRdata s) = exec i (sampleRdata s) := by
      simp [runWord, hi]
    simp only [hsel, if_true, hhost, backgroundPhase, andThen_assoc]
  · simp only [hsel, Bool.false_eq_true, if_false, andThen_next, backgroundPhase, andThen_assoc]

end Sys2Proof.Laws
end

section
/-! PROOFS. What a cycle with rst = 0 can do, said once: the move of the FSM of a busy block (41_synchronizer.md,
42_transceiver.md), the move of the host of a ready one (40_host_commands.md), and the registers at the cycle's end. -/

namespace Sys2Proof.Laws

open Sys2Proof.Machine Sys2Proof.Safety

/-! ### Clauses of R9 -/

theorem two_le_tw (p : Config) (hp : p.structural = true) : 2 ≤ p.tw := ((structural_iff p).mp hp).1.1

theorem one_le_tStart (p : Config) (hp : p.structural = true) : 1 ≤ p.tStart := by
  obtain ⟨⟨-, -, h, -⟩, -⟩ := (structural_iff p).mp hp
  exact h

theorem endTarget_lt_modulus (p : Config) (hp : p.structural = true) (i : Index) : p.endTarget i < p.modulus :=
  ((structural_iff p).mp hp).2.1 i

/-! ### The end of a cycle -/

/-- The state after a cycle with rst = 0 that began in `s` and in which the host and the FSM made `t`. -/
def endCycle (s t : State) : State := nextInput { backgroundPart s t with rdata := s.hRdata }

@[simp] theorem endCycle_cfg (s t : State) : (endCycle s t).cfg = t.cfg := rfl
@[simp] theorem endCycle_st (s t : State) : (endCycle s t).st = t.st := rfl
@[simp] theorem endCycle_warm (s t : State) : (endCycle s t).warm = t.warm := rfl
@[simp] theorem endCycle_tail (s t : State) : (endCycle s t).tail = t.tail := rfl
@[simp] theorem endCycle_rep (s t : State) : (endCycle s t).rep = t.rep := rfl
@[simp] theorem endCycle_byteIdx (s t : State) : (endCycle s t).byteIdx = t.byteIdx := rfl
@[simp] theorem endCycle_bitIdx (s t : State) : (endCycle s t).bitIdx = t.bitIdx := rfl
@[simp] theorem endCycle_rxShift (s t : State) : (endCycle s t).rxShift = t.rxShift := rfl
@[simp] theorem endCycle_tRef (s t : State) : (endCycle s t).tRef = t.tRef := rfl
@[simp] theorem endCycle_now (s t : State) : (endCycle s t).now = s.cfg.addM s.now 1 := rfl
@[simp] theorem endCycle_sync1 (s t : State) : (endCycle s t).sync1 = s.input.lancIn := rfl
@[simp] theorem endCycle_sync2 (s t : State) : (endCycle s t).sync2 = s.sync1 := rfl
@[simp] theorem endCycle_inDb (s t : State) : (endCycle s t).inDb = (debounceEffect s).inDb := rfl
@[simp] theorem endCycle_dbCnt (s t : State) : (endCycle s t).dbCnt = (debounceEffect s).dbCnt := rfl
@[simp] theorem endCycle_idleRun (s t : State) : (endCycle s t).idleRun = (edgeQualifyEffect s).idleRun := rfl
@[simp] theorem endCycle_outQ (s t : State) : (endCycle s t).outQ = t.outQ := rfl
@[simp] theorem endCycle_oeQ (s t : State) : (endCycle s t).oeQ = t.oeQ := rfl
@[simp] theorem endCycle_done (s t : State) : (endCycle s t).done = t.done := rfl
@[simp] theorem endCycle_ok (s t : State) : (endCycle s t).ok = t.ok := rfl
@[simp] theorem endCycle_ign (s t : State) : (endCycle s t).ign = t.ign := rfl
@[simp] theorem endCycle_cause (s t : State) : (endCycle s t).cause = t.cause := rfl
@[simp] theorem endCycle_frame (s t : State) : (endCycle s t).frame = t.frame := rfl
@[simp] theorem endCycle_repeatsM1 (s t : State) : (endCycle s t).repeatsM1 = t.repeatsM1 := rfl
@[simp] theorem endCycle_pending (s t : State) : (endCycle s t).pending = t.pending.tail := rfl
@[simp] theorem endCycle_busy (s t : State) : (endCycle s t).busy = t.busy := rfl
@[simp] theorem endCycle_frameByte (s t : State) (i : Index) : (endCycle s t).frameByte i = t.frameByte i := rfl

/-- After a cycle that kept the timing reference, one cycle more has elapsed, modulo `2^TW`. -/
theorem endCycle_elapsed_later (s t : State) (hc : t.cfg = s.cfg) (hr : t.tRef = s.tRef) :
    (endCycle s t).elapsed = (s.elapsed + 1) % s.cfg.modulus :=
  elapsed_later s (endCycle s t) rfl hc hr

/-- After a cycle that set the timing reference to now, one cycle has elapsed. -/
theorem endCycle_elapsed_fresh (s t : State) (hs : s.cfg.structural = true) (hc : t.cfg = s.cfg)
    (hr : t.tRef = s.now) : (endCycle s t).elapsed = 1 :=
  elapsed_fresh s (endCycle s t) rfl hc hr (two_le_tw s.cfg hs)

/-! ### The deadline of the FSM -/

/-- The target offset of the deadline wait that the FSM is in, if it is in one (42_transceiver.md R181, R183). -/
def waitTarget (s : State) : Option Nat :=
  match s.st with
  | .startConfirmed => some s.cfg.tStart
  | .transmitByte => some (s.cfg.driveTarget s.byteIdx s.bitIdx)
  | .receiveByte => some (if s.tail then s.cfg.endTarget s.byteIdx else s.cfg.sampleTarget s.byteIdx s.bitIdx)
  | .unconfigured | .idle | .awaitStart | .success | .desyncFailure => none

theorem waitTarget_startConfirmed (s : State) (h : s.st = .startConfirmed) : waitTarget s = some s.cfg.tStart := by
  simp [waitTarget, h]

theorem waitTarget_transmitByte (s : State) (h : s.st = .transmitByte) :
    waitTarget s = some (s.cfg.driveTarget s.byteIdx s.bitIdx) := by
  simp [waitTarget, h]

theorem waitTarget_sample (s : State) (h : s.st = .receiveByte) (ht : s.tail = false) :
    waitTarget s = some (s.cfg.sampleTarget s.byteIdx s.bitIdx) := by
  simp [waitTarget, h, ht]

theorem waitTarget_byteEnd (s : State) (h : s.st = .receiveByte) (ht : s.tail = true) :
    waitTarget s = some (s.cfg.endTarget s.byteIdx) := by
  simp [waitTarget, h, ht]

/-- Being on schedule is not being past the target of the current wait. -/
theorem onSchedule_iff (s : State) : OnSchedule s ↔ ∀ d, waitTarget s = some d → s.elapsed ≤ d := by
  unfold OnSchedule waitTarget
  cases s.st <;> cases s.tail <;> simp

/-- Under R9 no target reaches `2^TW`. -/
theorem waitTarget_lt (s : State) (hs : s.cfg.structural = true) (d : Nat) (h : waitTarget s = some d) :
    d < s.cfg.modulus := by
  obtain ⟨-, hend, hsample, hstart, -⟩ := (structural_iff _).mp hs
  have hbit : s.bitIdx.toNat ≤ 7 := by have := s.bitIdx.isLt; omega
  have hslot := Nat.mul_le_mul_right s.cfg.tBit hbit
  have hend := hend s.byteIdx
  have hsample := hsample s.byteIdx
  unfold waitTarget at h
  split at h
  · cases h; exact hstart
  · cases h; unfold Config.driveTarget; omega
  · cases h
    split
    · exact hend
    · unfold Config.sampleTarget Config.driveTarget; omega
  all_goals cases h

/-! ### The move of the FSM -/

/-- What the FSM of a busy block can do in one cycle. -/
inductive FsmMove (s : State) : State → Prop where
  /-- Nothing is due yet. -/
  | wait (hb : s.busy = true) (hawait : s.st = .awaitStart → s.startEdge = false ∧ s.elapsed < awaitBound s)
      (hdue : ∀ d, waitTarget s = some d → s.elapsed < d) : FsmMove s s
  /-- A start edge is taken (R162). -/
  | startEdge (hst : s.st = .awaitStart) (hedge : s.startEdge = true) :
      FsmMove s { s with tRef := s.now, st := .startConfirmed }
  /-- The bound of the wait for a start edge is reached (R162). -/
  | linkTimeout (hst : s.st = .awaitStart) (hedge : s.startEdge = false) (hbound : awaitBound s ≤ s.elapsed) :
      FsmMove s (fail .linkTimeout s)
  /-- A deadline has been missed (R181). -/
  | late (hb : s.busy = true) (hst : s.st ≠ .awaitStart) (d : Nat) (hd : waitTarget s = some d)
      (hlate : d < s.elapsed) : FsmMove s (fail .timingViolation s)
  /-- The start window ends (R163). -/
  | windowEnd (hst : s.st = .startConfirmed) (he : s.elapsed = s.cfg.tStart) :
      FsmMove s { s with tRef := s.now, st := .transmitByte, byteIdx := 0, bitIdx := 0 }
  /-- A slot's bit is driven (R184). -/
  | drive (hst : s.st = .transmitByte) (he : s.elapsed = s.cfg.driveTarget s.byteIdx s.bitIdx) :
      FsmMove s { s with outQ := s.cfg.pinlevel s.txbit, st := .receiveByte, tail := false }
  /-- A slot other than the last of its byte is sampled (R188). -/
  | sample (hst : s.st = .receiveByte) (htail : s.tail = false)
      (he : s.elapsed = s.cfg.sampleTarget s.byteIdx s.bitIdx) (hj : s.bitIdx ≠ 7) :
      FsmMove s { s with
        rxShift := setBit s.rxShift s.bitIdx (s.cfg.bitof s.asserted), st := .transmitByte, bitIdx := s.bitIdx + 1 }
  /-- The last slot of a byte is sampled (R188). -/
  | lastSample (hst : s.st = .receiveByte) (htail : s.tail = false)
      (he : s.elapsed = s.cfg.sampleTarget s.byteIdx s.bitIdx) (hj : s.bitIdx = 7) :
      FsmMove s { s with rxShift := setBit s.rxShift s.bitIdx (s.cfg.bitof s.asserted), tail := true }
  /-- A byte other than the last ends (R190). -/
  | byteEnd (hst : s.st = .receiveByte) (htail : s.tail = true) (he : s.elapsed = s.cfg.endTarget s.byteIdx)
      (hi : s.byteIdx ≠ 7) :
      FsmMove s { s.setFrame s.byteIdx s.rxShift with
        outQ := s.cfg.outIdle, tail := false, st := .transmitByte, byteIdx := s.byteIdx + 1, bitIdx := 0 }
  /-- The last byte of the last repeat ends (R193). -/
  | success (hst : s.st = .receiveByte) (htail : s.tail = true) (he : s.elapsed = s.cfg.endTarget s.byteIdx)
      (hi : s.byteIdx = 7) (hrep : s.rep = s.repeatsM1) :
      FsmMove s { s.setFrame s.byteIdx s.rxShift with
        outQ := s.cfg.outIdle, tail := false, byteIdx := 0, bitIdx := 0, st := .success, done := true, ok := true }
  /-- The last byte of another repeat ends (R193). -/
  | nextRepeat (hst : s.st = .receiveByte) (htail : s.tail = true) (he : s.elapsed = s.cfg.endTarget s.byteIdx)
      (hi : s.byteIdx = 7) (hrep : s.rep ≠ s.repeatsM1) :
      FsmMove s { s.setFrame s.byteIdx s.rxShift with
        outQ := s.cfg.outIdle, tail := false, byteIdx := 0, bitIdx := 0, rep := s.rep + 1, st := .awaitStart
        warm := true, tRef := s.now }

/-! No move of the FSM writes the parameters, the inputs, the repeat count or the output enable. -/

theorem FsmMove.cfg_eq {s v : State} (hv : FsmMove s v) : v.cfg = s.cfg := by cases hv <;> rfl

theorem FsmMove.pending_eq {s v : State} (hv : FsmMove s v) : v.pending = s.pending := by cases hv <;> rfl

theorem FsmMove.repeatsM1_eq {s v : State} (hv : FsmMove s v) : v.repeatsM1 = s.repeatsM1 := by cases hv <;> rfl

theorem FsmMove.oeQ_eq {s v : State} (hv : FsmMove s v) : v.oeQ = s.oeQ := by cases hv <;> rfl

/-- After a move that kept the timing reference, one cycle more has elapsed, modulo `2^TW`. -/
theorem FsmMove.elapsed_later {s v : State} (hv : FsmMove s v) (g : Bool) (hr : v.tRef = s.tRef) :
    (endCycle s { v with ign := g }).elapsed = (s.elapsed + 1) % s.cfg.modulus :=
  endCycle_elapsed_later s { v with ign := g } hv.cfg_eq hr

/-- After a move that set the timing reference to now, one cycle has elapsed. -/
theorem FsmMove.elapsed_fresh {s v : State} (hv : FsmMove s v) (hs : s.cfg.structural = true) (g : Bool)
    (hr : v.tRef = s.now) : (endCycle s { v with ign := g }).elapsed = 1 :=
  endCycle_elapsed_fresh s { v with ign := g } hs hv.cfg_eq hr

/-- A deadline wait moves as its action does at the target. -/
theorem deadline_move (s t : State) (d : Nat) (hd : waitTarget s = some d) (hact : s.elapsed = d → FsmMove s t) :
    FsmMove s (deadline s d t) := by
  have hst : s.busy = true ∧ s.st ≠ .awaitStart := by
    unfold waitTarget at hd
    cases hst : s.st <;> simp_all [State.busy, FsmState.isBusy]
  rcases deadline_cases s t d with ⟨h, e⟩ | ⟨h, e⟩ | ⟨h, e⟩ <;> rw [e]
  · exact .wait hst.1 (fun h => absurd h hst.2) fun d' hd' => by simp_all
  · exact hact h
  · exact .late hst.1 hst.2 d hd h

/-- At its target, a byte end makes one of its three moves. -/
theorem byteEndAction_move (s : State) (hst : s.st = .receiveByte) (htail : s.tail = true)
    (he : s.elapsed = s.cfg.endTarget s.byteIdx) : FsmMove s (byteEndAction s) := by
  by_cases hi : s.byteIdx = 7
  · rw [byteEndAction_last s hi]
    by_cases hrep : s.rep = s.repeatsM1
    · rw [repeatDecision_last (releaseAndStore s) hrep]
      exact .success hst htail he hi hrep
    · rw [repeatDecision_more (releaseAndStore s) hrep]
      exact .nextRepeat hst htail he hi hrep
  · rw [byteEndAction_inner s hi]
    exact .byteEnd hst htail he hi

/-- The FSM part of a busy block's cycle is one of the FSM's moves. -/
theorem fsmPart_move (s : State) (hb : s.busy = true) : FsmMove s (fsmPart s) := by
  unfold fsmPart
  cases hst : s.st <;> simp only
  case awaitStart =>
    rcases awaitBody_cases (awaitBound s) s with ⟨h, e⟩ | ⟨h, h2, e⟩ | ⟨h, h2, e⟩ <;>
      rw [show (if s.warm then s.cfg.timeoutWarm else s.cfg.timeoutCold) = awaitBound s from rfl, e]
    · exact .startEdge hst h
    · exact .linkTimeout hst h h2
    · exact .wait hb (fun _ => ⟨h, h2⟩) (by simp [waitTarget, hst])
  case startConfirmed => exact deadline_move s _ _ (waitTarget_startConfirmed s hst) (.windowEnd hst)
  case transmitByte => exact deadline_move s _ _ (waitTarget_transmitByte s hst) (.drive hst)
  case receiveByte =>
    cases htail : s.tail
    · refine deadline_move s (sampleAction s) _ (waitTarget_sample s hst htail) fun he => ?_
      by_cases hj : s.bitIdx = 7
      · rw [sampleAction_last s hj]
        exact .lastSample hst htail he hj
      · rw [sampleAction_inner s hj]
        exact .sample hst htail he hj
    · exact deadline_move s (byteEndAction s) _ (waitTarget_byteEnd s hst htail) (byteEndAction_move s hst htail)
  all_goals simp [State.busy, FsmState.isBusy, hst] at hb

/-- A busy cycle with rst = 0 is a move of the FSM, with IGN as the write gate leaves it. -/
theorem cycle_move (s : State) (hr : s.input.rst = false) (hb : s.busy = true) :
    ∃ v, FsmMove s v ∧ cycle s = endCycle s { v with ign := gatedWrite s || s.ign } := by
  refine ⟨fsmPart s, fsmPart_move s hb, ?_⟩
  rw [cycle_of_busy s hr hb, hostPart_ign_busy s hb]
  rfl

/-! ### The move of the host -/

/-- The cycle holds a host write to the address `a` (40_host_commands.md). -/
abbrev HostWrites (s : State) (a : Addr) : Prop := s.input.hSel = true ∧ s.input.hWe = true ∧ s.input.hAddr = a

/-- An accepted BEGIN is a write to CTRL with bit 0 set, of a block that is not busy. -/
theorem acceptedBegin_iff (s : State) :
    acceptedBegin s = true ↔ HostWrites s 0x0 ∧ s.input.hWdata.getLsbD 0 = true ∧ s.busy = false := by
  simp [acceptedBegin, beginWritten, HostWrites, and_assoc]

/-- A LOOP is a write to CTRL with bits 1:0 equal to 10. -/
theorem loopWritten_iff (s : State) :
    loopWritten s = true
      ↔ HostWrites s 0x0 ∧ s.input.hWdata.getLsbD 0 = false ∧ s.input.hWdata.getLsbD 1 = true := by
  simp [loopWritten, HostWrites, and_assoc]

/-- An accepted LOOP is a LOOP. -/
theorem loopWritten_of_acceptedLoop (s : State) (h : acceptedLoop s = true) : loopWritten s = true :=
  (Bool.and_eq_true_iff.mp h).1

/-- A cycle has one address, and a write to another is none to this one. -/
theorem HostWrites.addr_eq {s : State} {a b : Addr} (ha : HostWrites s a) (hb : HostWrites s b) : a = b :=
  ha.2.2.symm.trans hb.2.2

/-- The address of a frame byte is neither CTRL nor CONFIG. -/
theorem frameAddr_ne (i : Index) : (1#1 ++ i : Addr) ≠ 0x0 ∧ (1#1 ++ i : Addr) ≠ 0x2 := by
  obtain ⟨-, -, h0, -, h2, -⟩ := frameAddr_fields i
  exact ⟨h0, h2⟩

/-- Without a write to CTRL no BEGIN and no LOOP is accepted. -/
theorem not_accepted_of_not_ctrl (s : State) (h : ¬ HostWrites s 0x0) :
    acceptedBegin s = false ∧ acceptedLoop s = false :=
  ⟨Bool.eq_false_iff.mpr fun hB => h ((acceptedBegin_iff s).mp hB).1,
    Bool.eq_false_iff.mpr fun hL => h ((loopWritten_iff s).mp (loopWritten_of_acceptedLoop s hL)).1⟩

/-- What the host can do to a block that is not busy in one cycle. -/
inductive HostMove (s : State) : State → Prop where
  /-- Nothing, or a write without effect (R123, R131, R132). -/
  | none (hbegin : acceptedBegin s = false) (hloop : acceptedLoop s = false) (hconfig : ¬ HostWrites s 0x2)
      (hframe : ∀ i : Index, ¬ HostWrites s (1#1 ++ i)) : HostMove s s
  /-- BEGIN is accepted (R121). -/
  | begin (hw : HostWrites s 0x0) (hbegin : acceptedBegin s = true) :
      HostMove s { s with
        st := .idle, oeQ := true, outQ := s.cfg.outIdle, done := false, ok := false, ign := false, cause := .none
        warm := false, tail := false }
  /-- LOOP is accepted (R122). -/
  | loop (hw : HostWrites s 0x0) (hbegin : acceptedBegin s = false) (hloop : acceptedLoop s = true)
      (hst : s.st = .idle ∨ s.st = .success) :
      HostMove s { s with
        st := .awaitStart, warm := false, tail := false, rep := 0, byteIdx := 0, bitIdx := 0, tRef := s.now
        done := false, ok := false, ign := false, cause := .none }
  /-- LOOP is refused with NotReady (R122, R237). -/
  | notReady (hw : HostWrites s 0x0) (hbegin : acceptedBegin s = false) (hrefused : refusedLoop s = true)
      (hst : s.st = .unconfigured ∨ s.st = .desyncFailure) : HostMove s (raiseNotReady s)
  /-- The repeat count is written (R127). -/
  | config (hw : HostWrites s 0x2) (hbegin : acceptedBegin s = false) :
      HostMove s { s with repeatsM1 := s.input.hWdata.extractLsb' 0 2 }
  /-- A byte of the frame buffer is written (R128). -/
  | frame (i : Index) (hw : HostWrites s (1#1 ++ i)) (hbegin : acceptedBegin s = false) :
      HostMove s (s.setFrame i s.input.hWdata)

/-- A CTRL write to a block that is not busy makes the move of its command bits. -/
theorem hostWrite_ctrl_move (s : State) (hw : HostWrites s 0x0) (hb : s.busy = false) :
    HostMove s (hostWrite 0x0 s.input.hWdata s) := by
  rw [hostWrite, if_pos rfl]
  cases h0 : s.input.hWdata.getLsbD 0
  · have hbegin : acceptedBegin s = false := Bool.eq_false_iff.mpr fun h =>
      absurd ((acceptedBegin_iff s).mp h).2.1 (Bool.eq_false_iff.mp h0)
    rw [if_neg (by decide)]
    cases h1 : s.input.hWdata.getLsbD 1
    · rw [if_neg (by decide), ctrlNopEffect, gated_ready s _ hb]
      refine .none hbegin (Bool.eq_false_iff.mpr fun h => ?_) (fun h => absurd (hw.addr_eq h) (by decide)) fun i h => ?_
      · obtain ⟨-, -, h1'⟩ := (loopWritten_iff s).mp (loopWritten_of_acceptedLoop s h)
        exact absurd h1' (Bool.eq_false_iff.mp h1)
      · exact (frameAddr_ne i).1 (h.addr_eq hw)
    · have hloop : loopWritten s = true := (loopWritten_iff s).mpr ⟨hw, h0, h1⟩
      rw [if_pos rfl]
      rcases loopEffect_cases s with ⟨h, -⟩ | ⟨h, e⟩ | ⟨h, e⟩
      · simp [hb] at h
      · rw [e]
        exact .loop hw hbegin (by rcases h with h | h <;> simp [acceptedLoop, hloop, h]) h
      · rw [e]
        exact .notReady hw hbegin (by rcases h with h | h <;> simp [refusedLoop, hloop, h]) h
  · rw [if_pos rfl, beginEffect, gated_ready s _ hb]
    exact .begin hw ((acceptedBegin_iff s).mpr ⟨hw, h0, hb⟩)

/-- The host part of a cycle of a block that is not busy is one of the host's moves. -/
theorem hostPart_move (s : State) (hb : s.busy = false) : HostMove s (hostPart s) := by
  by_cases hctrl : HostWrites s 0x0
  · obtain ⟨hsel, hwe, ha⟩ := id hctrl
    rw [hostPart, hsel, hwe, ha]
    exact hostWrite_ctrl_move s hctrl hb
  obtain ⟨hbegin, hloop⟩ := not_accepted_of_not_ctrl s hctrl
  unfold hostPart
  split
  · next hw =>
    obtain ⟨hsel, hwe⟩ := Bool.and_eq_true_iff.mp hw
    rw [hostWrite, if_neg fun h0 => hctrl ⟨hsel, hwe, h0⟩]
    split
    · next h2 =>
      rw [configEffect, gated_ready s _ hb]
      exact .config ⟨hsel, hwe, h2⟩ hbegin
    next h2 =>
    split
    · next h3 =>
      rw [frameEffect, gated_ready s _ hb]
      exact .frame _ ⟨hsel, hwe, (addr_of_frame _ h3).symm⟩ hbegin
    · next h3 =>
      exact .none hbegin hloop (fun h => h2 h.2.2) fun i h => h3 (h.2.2 ▸ (frameAddr_fields i).1)
  · next hw =>
    have hnone : ∀ a, ¬ HostWrites s a := fun a h => hw (Bool.and_eq_true_iff.mpr ⟨h.1, h.2.1⟩)
    exact .none hbegin hloop (hnone _) fun i => hnone _

/-- In a cycle with rst = 0 of a block that is not busy the host part writes every register. -/
theorem cycle_of_ready (s : State) (hr : s.input.rst = false) (hb : s.busy = false) :
    cycle s = endCycle s (hostPart s) := by
  rw [cycle_of_not_rst s hr, hostAndFsm, if_neg (by simp [hb])]
  rfl

/-- A cycle with rst = 0 of a block that is not busy is a move of the host. -/
theorem cycle_hostMove (s : State) (hr : s.input.rst = false) (hb : s.busy = false) :
    ∃ v, HostMove s v ∧ cycle s = endCycle s v :=
  ⟨hostPart s, hostPart_move s hb, cycle_of_ready s hr hb⟩

end Sys2Proof.Laws
end

section
/-! PROOFS. Rules of the whole machine that follow from the moves of a cycle with rst = 0: the transitions of the FSM,
the failures, and who writes the output, the frame buffer, the configuration and the result flags. -/

namespace Sys2Proof.Laws

open Sys2Proof.Machine Sys2Proof.Safety

/-- The step of a cycle with rst = 0, by the move it makes. -/
theorem step_move (s : State) (hs : s.cfg.structural = true) (hr : s.input.rst = false) :
    (s.busy = true ∧ ∃ v, FsmMove s v ∧ step s = .next (endCycle s { v with ign := gatedWrite s || s.ign }))
      ∨ (s.busy = false ∧ ∃ v, HostMove s v ∧ step s = .next (endCycle s v)) := by
  rw [step_of_not_rst s hs hr]
  cases hb : s.busy with
  | true =>
    obtain ⟨v, hv, e⟩ := cycle_move s hr hb
    exact .inl ⟨rfl, v, hv, congrArg _ e⟩
  | false =>
    obtain ⟨v, hv, e⟩ := cycle_hostMove s hr hb
    exact .inr ⟨rfl, v, hv, congrArg _ e⟩

/-- Settles O55: each move of the FSM and of the host makes one of the transitions. -/
theorem fsmTransitions : Obligations.FsmTransitions := by
  intro s hs hr
  rcases step_move s hs hr with ⟨-, v, hv, hstep⟩ | ⟨hb, v, hv, hstep⟩ <;> refine ⟨_, hstep, ?_⟩
  · cases hv with
    | wait => exact .inl rfl
    | late _ hst d hd =>
      unfold waitTarget at hd
      cases h : s.st <;> simp_all
    | startEdge hst | linkTimeout hst | windowEnd hst | drive hst | sample hst | lastSample hst | byteEnd hst
      | success hst | nextRepeat hst => simp [hst]
  · cases hv with
    | none | config | frame => exact .inl rfl
    | notReady => exact .inl rfl
    | begin => cases h : s.st <;> simp_all [State.busy, FsmState.isBusy]
    | loop _ _ _ hst => rcases hst with h | h <;> simp [h]

/-- Settles O52: of the moves of a busy block, the one of LinkTimeout alone records its cause. -/
theorem whenLinkTimeout : Obligations.WhenLinkTimeout := by
  intro s hs hr hb
  rcases step_move s hs hr with ⟨-, v, hv, hstep⟩ | ⟨hb', -⟩
  · refine ⟨_, hstep, ?_⟩
    cases hv with
    | wait _ hawait =>
      have hne : s.st ≠ .desyncFailure := fun h => by simp [State.busy, FsmState.isBusy, h] at hb
      refine iff_of_false (fun h => hne h.1) fun h => ?_
      have := (hawait h.1).2
      omega
    | startEdge hst hedge => simp [hedge]
    | linkTimeout hst hedge hbound => simp [hst, hedge, hbound]
    | late _ hst => simp [hst]
    | windowEnd hst | drive hst | sample hst | lastSample hst | byteEnd hst | success hst | nextRepeat hst =>
      simp [hst]
  · simp [hb] at hb'

/-- Settles O53: of the moves of the host, an accepted BEGIN alone leaves DESYNC_FAILURE. -/
theorem failureExit : Obligations.FailureExit := by
  intro s hs hst hr
  rcases step_move s hs hr with ⟨hb, -⟩ | ⟨-, v, hv, hstep⟩
  · simp [busy_of_notReady s (.inr hst)] at hb
  · refine ⟨_, hstep, ?_⟩
    cases hv with
    | begin _ hbegin => simp [hbegin]
    | loop _ _ _ h => simp [hst] at h
    | none hbegin | notReady _ hbegin | config _ hbegin | frame _ _ hbegin => simp [hbegin, hst]

/-- Settles O56: of all moves BEGIN alone writes the output enable, and no other move of the host writes the output. -/
theorem outputQuietOutsideCalls : Obligations.OutputQuietOutsideCalls := by
  intro s hs hr
  rcases step_move s hs hr with ⟨hb, v, hv, hstep⟩ | ⟨-, v, hv, hstep⟩ <;> refine ⟨_, hstep, ?_⟩
  · simp [hv.oeQ_eq, hb, not_accepted_busy s hb]
  · cases hv with
    | begin _ hbegin => simp [hbegin]
    | none hbegin | loop _ hbegin | notReady _ hbegin | config _ hbegin | frame _ _ hbegin => simp [hbegin]

/-- Different frame bytes have different addresses. -/
theorem frameAddr_injective {i k : Index} (h : (1#1 ++ i : Addr) = 1#1 ++ k) : i = k := by
  obtain ⟨-, hi, -⟩ := frameAddr_fields i
  obtain ⟨-, hk, -⟩ := frameAddr_fields k
  rw [← hi, h, hk]

theorem byteEndCycle_iff (s : State) (i : Index) :
    byteEndCycle i s = true
      ↔ s.st = .receiveByte ∧ s.tail = true ∧ s.byteIdx = i ∧ s.elapsed = s.cfg.endTarget i := by
  simp [byteEndCycle, and_assoc]

/-- In the cycle of a byte end its target is met. -/
theorem elapsed_of_byteEndCycle (s : State) (i : Index) (h : byteEndCycle i s = true) :
    waitTarget s = some s.elapsed := by
  obtain ⟨hst, htail, rfl, he⟩ := (byteEndCycle_iff s i).mp h
  rw [waitTarget_byteEnd s hst htail, he]

/-- A frame byte after a byte end: the byte received, in the cycle that ends this byte. -/
theorem frameByte_of_byteEnd (s v : State) (i : Index) (hst : s.st = .receiveByte) (htail : s.tail = true)
    (he : s.elapsed = s.cfg.endTarget s.byteIdx) (hv : v.frame = (s.setFrame s.byteIdx s.rxShift).frame) :
    v.frameByte i = if byteEndCycle i s then s.rxShift else s.frameByte i := by
  have hbyte : v.frameByte i = (s.setFrame s.byteIdx s.rxShift).frameByte i := by
    unfold State.frameByte
    rw [hv]
  have hiff : byteEndCycle i s = true ↔ i = s.byteIdx := by
    rw [byteEndCycle_iff]
    refine ⟨fun h => h.2.2.1.symm, ?_⟩
    rintro rfl
    exact ⟨hst, htail, rfl, he⟩
  rw [hbyte, frameByte_setFrame]
  simp only [hiff]

/-- A frame byte after a move of the FSM: only its own byte end writes it. -/
theorem fsmMove_frameByte {s v : State} (hv : FsmMove s v) (i : Index) :
    v.frameByte i = if byteEndCycle i s then s.rxShift else s.frameByte i := by
  cases hv with
  | wait _ _ hdue =>
    rw [if_neg fun h => absurd (hdue _ (elapsed_of_byteEndCycle s i h)) (by omega)]
  | late _ _ d hd hlate =>
    rw [if_neg fun h => ?_]
    · rfl
    · have := hd.symm.trans (elapsed_of_byteEndCycle s i h)
      simp_all
  | startEdge hst | linkTimeout hst | windowEnd hst | drive hst =>
    rw [if_neg (by simp [byteEndCycle, hst])]
    rfl
  | sample _ htail | lastSample _ htail =>
    rw [if_neg (by simp [byteEndCycle, htail])]
    rfl
  | byteEnd hst htail he | success hst htail he | nextRepeat hst htail he =>
    exact frameByte_of_byteEnd s _ i hst htail he rfl

/-- Settles O57: of all moves, the host's write to the byte and the byte's own end alone write it. -/
theorem frameWriters : Obligations.FrameWriters := by
  intro s i hs hr
  change ∃ t, step s = .next t ∧ t.frameByte i = if s.busy = false ∧ HostWrites s (1#1 ++ i) then s.input.hWdata
    else if byteEndCycle i s then s.rxShift else s.frameByte i
  rcases step_move s hs hr with ⟨hb, v, hv, hstep⟩ | ⟨hb, v, hv, hstep⟩ <;> refine ⟨_, hstep, ?_⟩
  · rw [if_neg (by simp [hb])]
    exact fsmMove_frameByte hv i
  · have hend : byteEndCycle i s = false := by
      refine Bool.eq_false_iff.mpr fun h => ?_
      simp [State.busy, FsmState.isBusy, ((byteEndCycle_iff s i).mp h).1] at hb
    rw [hend]
    cases hv with
    | none _ _ _ hframe =>
      rw [if_neg fun h => hframe i h.2]
      rfl
    | frame k hw =>
      by_cases hk : i = k
      · subst hk
        rw [if_pos ⟨hb, hw⟩]
        exact frameByte_setFrame_same s i _
      · rw [if_neg fun h => hk (frameAddr_injective (h.2.addr_eq hw))]
        exact (frameByte_setFrame s k i _).trans (if_neg hk)
    | begin hw | loop hw | notReady hw =>
      rw [if_neg fun h => (frameAddr_ne i).1 (h.2.addr_eq hw)]
      rfl
    | config hw =>
      rw [if_neg fun h => (frameAddr_ne i).2 (h.2.addr_eq hw)]
      rfl

/-- Settles O58: of all moves the host's write to CONFIG alone writes the repeat count, and none the parameters. -/
theorem configWriters : Obligations.ConfigWriters := by
  intro s hs hr
  change ∃ t, step s = .next t ∧ t.cfg = s.cfg ∧ t.repeatsM1
    = if s.busy = false ∧ HostWrites s 0x2 then s.input.hWdata.extractLsb' 0 2 else s.repeatsM1
  rcases step_move s hs hr with ⟨hb, v, hv, hstep⟩ | ⟨hb, v, hv, hstep⟩ <;> refine ⟨_, hstep, ?_⟩
  · rw [if_neg (by simp [hb])]
    exact ⟨hv.cfg_eq, hv.repeatsM1_eq⟩
  · cases hv with
    | none _ _ hconfig => exact ⟨rfl, (if_neg fun h => hconfig h.2).symm⟩
    | config hw => exact ⟨rfl, (if_pos ⟨hb, hw⟩).symm⟩
    | begin hw | loop hw | notReady hw =>
      exact ⟨rfl, (if_neg fun h => absurd (hw.addr_eq h.2) (by decide)).symm⟩
    | frame i hw => exact ⟨rfl, (if_neg fun h => (frameAddr_ne i).2 (hw.addr_eq h.2)).symm⟩

/-- Settles O59: of all moves the failures, the end of a call and a refused LOOP set DONE; an accepted BEGIN or LOOP
clears it. -/
theorem resultFlagWriters : Obligations.ResultFlagWriters := by
  intro s hs hr
  rcases step_move s hs hr with ⟨hb, v, hv, hstep⟩ | ⟨hb, v, hv, hstep⟩ <;> refine ⟨_, hstep, ?_⟩
  · cases hv with
    | linkTimeout | late => exact ⟨fun _ _ => .inl ⟨hb, rfl⟩, by simp, by simp, fun _ _ => .inr (.inr (.inr rfl))⟩
    | success => exact ⟨fun _ _ => .inl ⟨hb, rfl⟩, by simp, fun _ _ => ⟨hb, rfl⟩, by simp⟩
    | wait | startEdge | windowEnd | drive | sample | lastSample | byteEnd | nextRepeat => simp_all
  · cases hv with
    | none | config | frame => simp_all
    | begin _ hbegin => simp [hbegin]
    | loop _ _ hloop => simp [hloop]
    | notReady _ _ hrefused => simp [hrefused]

end Sys2Proof.Laws
end

section
/-! PROOFS. The reset state, the input path, the byte end, the repeat controller, the holds and the timed wait, each
from its definition (10_state.md R60, 41_synchronizer.md R151 to R154, 42_transceiver.md R181 to R198,
30_encoding.md R106 to R108). -/

namespace Sys2Proof.Laws

open Sys2Proof.Machine Sys2Proof.Safety

/-- After a reset cycle no flag is set and the state has code 0. -/
theorem status_resetCycle (s : State) : (resetCycle s).status = 0x00 := by
  rw [show (resetCycle s).status = 0#1 ++ 0#1 ++ 0#1 ++ 0#1 ++ 0#1 ++ 0#3 from rfl]
  rfl

/-- Settles O10: h_rdata is sampled before the reset values land. -/
theorem resetCycleReads : Obligations.ResetCycleReads := fun s hs hr =>
  ⟨resetCycle s, step_of_rst s hs hr, rfl, status_resetCycle s, readConfig.2 s.cfg, rfl, rfl⟩

/-- The invariants hold in the reset state of every parameter set, whatever is read and presented then. -/
theorem inv_reset (p : Config) (r : Byte) (js : List Input) (n : Nat) :
    Inv { State.resetWith p with rdata := r, pending := js, cycle := n } where
  now_lt := modulus_pos p
  tRef_lt := modulus_pos p
  dbCnt_le := Nat.zero_le _
  idleRun_le := Nat.zero_le _
  tail_receive := by simp [State.resetWith]
  tail_lastBit := by simp [State.resetWith]
  rep_le := by simp [State.resetWith]
  oe_configured := by simp [State.resetWith]
  out_idle := by simp [State.resetWith]
  ok_success := by simp [State.resetWith]
  success_flags := by simp [State.resetWith]
  desync_flags := by simp [State.resetWith]
  busy_flags := by simp [State.resetWith, State.busy, FsmState.isBusy]
  cause_desync := by simp [State.resetWith]

/-- Settles O11: every register is small, idle or clear, and UNCONFIGURED waits for no deadline. -/
theorem invariantsAtReset : Obligations.InvariantsAtReset := fun p => ⟨inv_reset p 0 [] 1, trivial⟩

/-- Settles O31: the three operations are their effects, and a start edge is R154's condition. -/
theorem inputPath : Obligations.InputPath := by
  intro s hs
  refine ⟨elaborated_of_structural s (inputSyncEffect s) hs, elaborated_of_structural s (debounceEffect s) hs,
    ?_, ?_⟩
  · rw [show exec .edgeQualify s = _ from elaborated_of_structural s (edgeQualifyEffect s) hs]
    simp [edgeQualifyEffect, State.asserted]
  · simp [State.startEdge, State.asserted, and_assoc]

/-- Settles O32: by induction on the number of cycles, the count of a level that differs grows by one in each. -/
theorem debounceLatency : Obligations.DebounceLatency := by
  intro s k hs hdiff hcnt hk
  obtain ⟨⟨-, hpos, -⟩, -⟩ := (structural_iff _).mp hs
  have hcount : ∀ n, n < s.cfg.dbLen → debounceEffect^[n] s = { s with dbCnt := n } := by
    intro n
    induction n with
    | zero => exact fun _ => congrArg (fun c => { s with dbCnt := c }) hcnt
    | succ n ih =>
      intro hn
      rw [Function.iterate_succ_apply', ih (by omega)]
      simp [debounceEffect, hdiff]
      omega
  split
  · next h => exact hcount k h
  · next h =>
    obtain rfl : k = s.cfg.dbLen - 1 + 1 := by omega
    rw [Function.iterate_succ_apply', hcount _ (by omega)]
    simp [debounceEffect, hdiff]
    omega

/-- Settles O41: the byte end is a deadline wait, and at the deadline its action is the byte's or the repeat
controller's. -/
theorem byteEnd : Obligations.ByteEnd := by
  intro w b s hs d
  have hexec : exec (.byteComplete w b) s = .next (deadline s d (byteEndAction s)) :=
    elaborated_of_structural s (byteEndBody s) hs
  refine ⟨fun hearly => ?_, fun hlate => ?_, fun hdue => ⟨(s.setFrame s.byteIdx s.rxShift).frame,
    frameByte_setFrame s s.byteIdx (b := s.rxShift), ?_, fun hi => ?_⟩, fun hst htail => ?_⟩
  · rw [hexec, deadline_early s _ d hearly]
  · rw [hexec, deadline_late s _ d hlate]
    rfl
  · rw [hexec, deadline_met s _ d hdue]
    by_cases hi : s.byteIdx = 7
    · rw [if_neg (not_not.mpr hi), byteEndAction_last s hi]
      rfl
    · rw [if_pos hi, byteEndAction_inner s hi]
      rfl
  · rw [hexec, deadline_met s _ d hdue, byteEndAction_last s hi]
    exact (elaborated_of_structural (releaseAndStore s) (repeatDecision (releaseAndStore s)) hs).symm
  · have hd := decodeSelector_selector s
    rw [hst] at hd
    simpa [htail] using hd

/-- Settles O42: REPEAT_CONTROL is the repeat decision. -/
theorem repeatController : Obligations.RepeatController := fun s hs =>
  elaborated_of_structural s (repeatDecision s) hs

/-- Settles O43: each hold answers its own state. -/
theorem holdsChangeNothing : Obligations.HoldsChangeNothing := fun _ s hs =>
  have hhold := elaborated_of_structural s s hs
  ⟨hhold, hhold, hhold, hhold⟩

/-- A state waits for a deadline exactly in START_CONFIRMED, TRANSMIT_BYTE and RECEIVE_BYTE. -/
theorem waitAction_isSome (s : State) (h : s.st = .startConfirmed ∨ s.st = .transmitByte ∨ s.st = .receiveByte) :
    ∃ t, waitAction s = some t := by
  rcases h with h | h | h <;> simp [waitAction, h]

/-- Settles O44: DELAY_US_WITH_START_TIME is the deadline wait with the state's action, as are the three bodies. -/
theorem delayIsTheTimedWait : Obligations.DelayIsTheTimedWait := by
  intro d s hs
  have hexec : ∀ d, exec (.delayUsWithStartTime d) s = .next (delayEffect d s) := fun d =>
    elaborated_of_structural s (delayEffect d s) hs
  have hwait : ∀ d t, waitAction s = some t → delayEffect d s = deadline s d t := fun d t h => by
    simp [delayEffect, h]
  refine ⟨fun hst => ?_, fun hst => ?_, fun hst x => ?_, fun hst x => ?_, fun hst u v => ?_⟩
  · obtain ⟨t, ht⟩ := waitAction_isSome s hst
    rw [hexec, hwait d t ht]
    refine ⟨fun h => ?_, fun h => ⟨t, ?_, ht⟩, fun h => ?_⟩
    · rw [deadline_early s t d h]
    · rw [deadline_met s t d h]
    · rw [deadline_late s t d h]
      rfl
  · have hnone : waitAction s = none := by
      rcases hst with h | h | h | h | h <;> simp [waitAction, h]
    rw [hexec, delayEffect, hnone]
  · rw [hexec, hwait _ (windowEnd s) (by simp [waitAction, hst])]
    exact elaborated_of_structural s (windowBody s) hs
  · rw [hexec, hwait _ (driveAction s.txbit s) (by simp [waitAction, hst])]
    cases hb : s.txbit
    · exact elaborated_of_structural s (driveBody false s) hs
    · exact elaborated_of_structural s (driveBody true s) hs
  · rw [hexec, hwait _ (if s.tail then byteEndAction s else sampleAction s) (by simp [waitAction, hst])]
    cases ht : s.tail
    · exact elaborated_of_structural s (sampleBody s) hs
    · exact elaborated_of_structural s (byteEndBody s) hs

/-- Settles O45: by the polarity and the bit; the idle byte repeats the bit that does not assert. -/
theorem lineEncoding : Obligations.LineEncoding := by
  intro p b j
  refine ⟨?_, ?_, ?_⟩
  · cases b <;> cases h : p.oneAsserts <;> simp [Config.bitof, Config.asserts, h]
  · cases b <;> cases h : p.oneAsserts <;> simp [Config.pinlevel, Config.asserts, h]
  · have hzero : bitOf 0x00 j = false := by revert j; decide
    have hone : bitOf 0xFF j = true := by revert j; decide
    unfold Config.idleByte
    cases h : p.oneAsserts
    · rw [if_neg (by decide), hone, Config.asserts, h]
      rfl
    · rw [if_pos rfl, hzero, Config.asserts, h]
      rfl

end Sys2Proof.Laws
end

section
/-! PROOFS. What a cycle depends on: the inputs reach it by the transaction, by sync1 and by the value h_rdata shows
(42_transceiver.md R200), and the ghost cause reaches nothing (10_state.md R52). -/

namespace Sys2Proof.Laws

open Sys2Proof.Machine Sys2Proof.Safety

/-! ### The inputs -/

/-- What the transaction of the inputs `j` makes of the state (42_transceiver.md R200, part 2). -/
def transaction (j : Input) (s : State) : State :=
  if j.hSel && j.hWe then hostWrite j.hAddr j.hWdata s else s

/-- The host and the FSM together in a cycle with the inputs `j`. -/
def hostAndFsmOn (j : Input) (s : State) : State :=
  if s.busy then { fsmPart s with ign := (transaction j s).ign } else transaction j s

theorem hostWrite_withInput (a : Addr) (v : Byte) (s : State) (j : Input) :
    hostWrite a v (s.withInput j) = (hostWrite a v s).withInput j := by
  unfold hostWrite beginEffect loopEffect ctrlNopEffect configEffect frameEffect gated
  simp only [apply_ite (State.withInput · j)]
  rfl

theorem hostPart_withInput (s : State) (j : Input) : hostPart (s.withInput j) = (transaction j s).withInput j := by
  rw [hostPart, transaction, input_withInput, hostWrite_withInput, apply_ite (State.withInput · j)]

theorem hostAndFsm_withInput (s : State) (j : Input) :
    hostAndFsm (s.withInput j) = (hostAndFsmOn j s).withInput j := by
  rw [hostAndFsm, hostAndFsmOn, hostPart_withInput, fsmPart_withInput, apply_ite (State.withInput · j)]
  rfl

/-- In a cycle with rst = 0 the inputs reach the transaction, sync1 and the value read, and nothing else. -/
theorem cycle_withInput (s : State) (j : Input) (hr : j.rst = false) :
    cycle (s.withInput j)
      = { endCycle s (hostAndFsmOn j s) with sync1 := j.lancIn, rdata := s.hostRead j.hAddr } := by
  rw [cycle_of_not_rst (s.withInput j) hr, hostAndFsm_withInput]
  unfold endCycle backgroundPart
  rw [debounceEffect_withInput]
  rfl

/-- Two steps with inputs of the same rst are related if reset cycles and cycles with rst = 0 are. -/
theorem step_pair {R : State → State → Prop} (s : State) (j k : Input) (hs : s.cfg.structural = true)
    (hrst : k.rst = j.rst) (hreset : R (resetCycle (s.withInput j)) (resetCycle (s.withInput k)))
    (hrun : R { endCycle s (hostAndFsmOn j s) with sync1 := j.lancIn, rdata := s.hostRead j.hAddr }
      { endCycle s (hostAndFsmOn k s) with sync1 := k.lancIn, rdata := s.hostRead k.hAddr }) :
    ∃ t u, step (s.withInput j) = .next t ∧ step (s.withInput k) = .next u ∧ R t u := by
  cases hr : j.rst with
  | true => exact ⟨_, _, step_of_rst (s.withInput j) hs hr, step_of_rst (s.withInput k) hs (hrst.trans hr), hreset⟩
  | false =>
    refine ⟨_, _, step_of_not_rst (s.withInput j) hs hr, step_of_not_rst (s.withInput k) hs (hrst.trans hr), ?_⟩
    rw [cycle_withInput s j hr, cycle_withInput s k (hrst.trans hr)]
    exact hrun

/-- Settles O28: a read is no host write, so both transactions do nothing. -/
theorem readsHaveNoSideEffect : Obligations.ReadsHaveNoSideEffect := by
  intro s j a hs
  have hnone : ∀ k : Input, (k.hSel && k.hWe) = false → hostAndFsmOn k s = if s.busy then fsmPart s else s := by
    intro k hk
    have htr : transaction k s = s := by simp [transaction, hk]
    rw [hostAndFsmOn, htr, fsmPart_frame s]
  refine step_pair s _ _ hs rfl rfl ?_
  rw [hnone _ (Bool.and_false _), hnone _ (Bool.false_and _)]
  rfl

/-- Settles O29: while busy the transaction reaches IGN alone. -/
theorem hostCannotDisturbExchange : Obligations.HostCannotDisturbExchange := by
  intro s j sel we a v hs hb
  have hbusy : ∀ k, hostAndFsmOn k s = { fsmPart s with ign := (transaction k s).ign } := fun k => if_pos hb
  refine step_pair s _ _ hs rfl rfl ?_
  rw [hbusy, hbusy]
  rfl

/-- Settles O34: the transaction does not read lanc_in. -/
theorem lineReachesOnlySync1 : Obligations.LineReachesOnlySync1 := by
  intro s j level hs
  have hsame : hostAndFsmOn { j with lancIn := level } s = hostAndFsmOn j s := rfl
  refine step_pair (R := fun t u => { t with sync1 := u.sync1 } = u) s _ _ hs rfl rfl ?_
  rw [hsame]

/-! ### The ghost cause -/

/-- Two choices by the same condition differ at most in the cause if what they choose from does. -/
theorem sameButCause_ite {p q : Prop} [Decidable p] [Decidable q] {s t u v : State} (h : p ↔ q)
    (hs : SameButCause s u) (ht : SameButCause t v) : SameButCause (if p then s else t) (if q then u else v) := by
  by_cases hp : p
  · rwa [if_pos hp, if_pos (h.mp hp)]
  · rwa [if_neg hp, if_neg fun hq => hp (h.mpr hq)]

/-- The state with another cause. -/
def withCause (c : Cause) (s : State) : State := { s with cause := c }

/-- The FSM does not read the cause. -/
theorem fsmPart_sameButCause (c : Cause) (s : State) : SameButCause (fsmPart s) (fsmPart (withCause c s)) := by
  unfold fsmPart awaitBody windowBody driveBody byteEndBody sampleBody deadline sampleAction byteEndAction
    repeatDecision
  rw [show (withCause c s).st = s.st from rfl]
  cases s.st
  all_goals dsimp only
  all_goals repeat' refine sameButCause_ite Iff.rfl ?_ ?_
  all_goals rfl

/-- The host's transaction does not read the cause. -/
theorem hostPart_sameButCause (c : Cause) (s : State) : SameButCause (hostPart s) (hostPart (withCause c s)) := by
  unfold hostPart hostWrite beginEffect loopEffect ctrlNopEffect configEffect frameEffect gated
  repeat' refine sameButCause_ite Iff.rfl ?_ ?_
  all_goals rfl

/-- The host and the FSM together pass a difference in the cause on and make no other. -/
theorem hostAndFsm_sameButCause (c : Cause) (s : State) :
    SameButCause (hostAndFsm s) (hostAndFsm (withCause c s)) := by
  have hhost := hostPart_sameButCause c s
  refine sameButCause_ite Iff.rfl ?_ hhost
  rw [← fsmPart_sameButCause c s, ← hhost]
  rfl

/-- A cycle passes a difference in the cause on and makes no other. -/
theorem cycle_sameButCause (c : Cause) (s : State) : SameButCause (cycle s) (cycle (withCause c s)) := by
  have hbg : SameBackground (withCause c s) s := ⟨rfl, rfl, rfl, rfl, rfl, rfl, rfl, rfl⟩
  refine sameButCause_ite Iff.rfl rfl ?_
  rw [← hostAndFsm_sameButCause c s, backgroundPart_congr hbg]
  rfl

/-- Settles O60: no part of a cycle reads the cause. -/
theorem causeIsInvisible : Obligations.CauseIsInvisible := by
  intro s u hs hu
  have hu' : u = withCause u.cause s := hu.symm
  have hcyc : SameButCause (cycle s) (cycle u) := hu' ▸ cycle_sameButCause u.cause s
  refine ⟨cycle s, cycle u, stepIsSimultaneousCycle s hs, stepIsSimultaneousCycle u (hu' ▸ hs), hcyc, ?_⟩
  rw [← hcyc]
  exact ⟨rfl, rfl, rfl, rfl⟩

end Sys2Proof.Laws
end

section
/-! PROOFS. What every step keeps: the invariants of 10_state.md R57, and being on schedule (60_exceptions.md R234). -/

namespace Sys2Proof.Laws

open Sys2Proof.Machine Sys2Proof.Safety

/-! ### The invariants -/

/-- The invariants of the registers that the FSM and the host write (10_state.md R57). -/
structure ControlInv (s : State) : Prop where
  tRef_lt : s.tRef < s.cfg.modulus
  tail_receive : s.tail = true → s.st = .receiveByte
  tail_lastBit : s.tail = true → s.bitIdx = 7
  rep_le : s.busy = true → s.rep ≤ s.repeatsM1
  oe_configured : s.oeQ = false ↔ s.st = .unconfigured
  out_idle : s.st ≠ .transmitByte → s.st ≠ .receiveByte → s.outQ = s.cfg.outIdle
  ok_success : s.ok = true → s.done = true ∧ s.st = .success
  success_flags : s.st = .success → s.done = true ∧ s.ok = true
  desync_flags : s.st = .desyncFailure → s.done = true ∧ s.ok = false
  busy_flags : s.busy = true → s.done = false ∧ s.ok = false
  cause_desync : s.st ≠ .unconfigured → (s.cause ≠ .none ↔ s.st = .desyncFailure)

/-- A repeat count that is not reached yet is not passed by the next repeat. -/
theorem rep_succ_le (r m : BitVec 2) (hle : r ≤ m) (hne : r ≠ m) : r + 1 ≤ m := by
  revert r m
  decide

/-- The invariants of a busy block: it is configured, its flags and its cause are clear (10_state.md R57). -/
structure CallInv (s : State) : Prop where
  tRef_lt : s.tRef < s.cfg.modulus
  tail_lastBit : s.tail = true → s.st = .receiveByte ∧ s.bitIdx = 7
  rep_le : s.rep ≤ s.repeatsM1
  configured : s.oeQ = true
  out_idle : s.st ≠ .transmitByte → s.st ≠ .receiveByte → s.outQ = s.cfg.outIdle
  done_clear : s.done = false
  ok_clear : s.ok = false
  cause_clear : s.cause = .none

/-- The states in which no call is in progress are not those of a busy block. -/
theorem st_ne_of_busy (s : State) (hb : s.busy = true) :
    s.st ≠ .unconfigured ∧ s.st ≠ .success ∧ s.st ≠ .desyncFailure := by
  refine ⟨?_, ?_, ?_⟩ <;> intro h <;> simp [State.busy, FsmState.isBusy, h] at hb

theorem ControlInv.call {s : State} (h : ControlInv s) (hb : s.busy = true) : CallInv s := by
  obtain ⟨hu, -, hd⟩ := st_ne_of_busy s hb
  obtain ⟨hdone, hok⟩ := h.busy_flags hb
  refine ⟨h.tRef_lt, fun ht => ⟨h.tail_receive ht, h.tail_lastBit ht⟩, h.rep_le hb, ?_, h.out_idle, hdone, hok, ?_⟩
  · simpa [hu] using h.oe_configured
  · by_contra hc
    exact hd ((h.cause_desync hu).mp hc)

theorem CallInv.control {s : State} (h : CallInv s) (hb : s.busy = true) : ControlInv s := by
  obtain ⟨hu, hs, hd⟩ := st_ne_of_busy s hb
  exact ⟨h.tRef_lt, fun ht => (h.tail_lastBit ht).1, fun ht => (h.tail_lastBit ht).2, fun _ => h.rep_le,
    by simp [h.configured, hu], h.out_idle, by simp [h.ok_clear], fun e => absurd e hs, fun e => absurd e hd,
    fun _ => ⟨h.done_clear, h.ok_clear⟩, fun _ => by simp [h.cause_clear, hd]⟩

/-- A failure entry with a cause leaves the invariants, whatever the wait was that failed. -/
theorem CallInv.fail {s : State} (h : CallInv s) (c : Cause) (hc : c ≠ .none) : ControlInv (fail c s) :=
  ⟨h.tRef_lt, nofun, nofun, nofun, by simp [h.configured], fun _ _ => rfl, nofun, nofun, fun _ => ⟨rfl, rfl⟩, nofun,
    fun _ => ⟨fun _ => rfl, fun _ => hc⟩⟩

/-- The FSM moves only where the block is busy. -/
theorem FsmMove.busy {s v : State} (hv : FsmMove s v) : s.busy = true := by
  cases hv with
  | wait hb | late hb => exact hb
  | startEdge h | linkTimeout h | windowEnd h | drive h | sample h | lastSample h | byteEnd h | success h
    | nextRepeat h => simp [State.busy, FsmState.isBusy, h]

/-- The FSM keeps the invariants of the registers it writes. -/
theorem fsmMove_controlInv {s v : State} (hnow : s.now < s.cfg.modulus) (h : ControlInv s) (hv : FsmMove s v) :
    ControlInv v := by
  have hb := hv.busy
  have hfail := fun c hc => (h.call hb).fail c hc
  have htail : s.st ≠ .receiveByte → s.tail ≠ true := fun hst ht => hst (h.tail_receive ht)
  obtain ⟨href, -, hrep, hoe, hidle, hdone, hok, hcause⟩ := h.call hb
  cases hv with
  | wait => exact h
  | linkTimeout | late => exact hfail _ nofun
  | startEdge hst =>
    exact CallInv.control ⟨hnow, fun ht => absurd ht (htail (by simp [hst])), hrep, hoe,
      fun _ _ => hidle (by simp [hst]) (by simp [hst]), hdone, hok, hcause⟩ rfl
  | windowEnd hst =>
    exact CallInv.control ⟨hnow, fun ht => absurd ht (htail (by simp [hst])), hrep, hoe, fun h => absurd rfl h, hdone,
      hok, hcause⟩ rfl
  | drive =>
    exact CallInv.control ⟨href, nofun, hrep, hoe, fun _ h => absurd rfl h, hdone, hok, hcause⟩ rfl
  | sample _ ht =>
    exact CallInv.control ⟨href, fun ht' => by simp [ht] at ht', hrep, hoe, fun h => absurd rfl h, hdone, hok, hcause⟩ rfl
  | lastSample hst _ _ hj =>
    exact CallInv.control ⟨href, fun _ => ⟨hst, hj⟩, hrep, hoe, fun _ h => absurd hst h, hdone, hok, hcause⟩ hb
  | byteEnd =>
    exact CallInv.control ⟨href, nofun, hrep, hoe, fun h => absurd rfl h, hdone, hok, hcause⟩ rfl
  | success =>
    exact ⟨href, nofun, nofun, nofun, by simp [hoe], fun _ _ => rfl, fun _ => ⟨rfl, rfl⟩, fun _ => ⟨rfl, rfl⟩, nofun,
      nofun, by simp [hcause]⟩
  | nextRepeat _ _ _ _ hne =>
    exact CallInv.control ⟨hnow, nofun, rep_succ_le _ _ hrep hne, hoe, fun _ _ => rfl, hdone, hok, hcause⟩ rfl

/-- The host keeps the invariants of the registers it writes in a block that is not busy. -/
theorem hostMove_controlInv {s v : State} (hb : s.busy = false) (hnow : s.now < s.cfg.modulus) (h : ControlInv s)
    (hv : HostMove s v) : ControlInv v := by
  obtain ⟨href, htail, hbit, hrep, hoe, hidle, hok, hsucc, hdesync, hflags, hcause⟩ := h
  have hnot : s.busy ≠ true := by simp [hb]
  cases hv with
  | none => exact ⟨href, htail, hbit, hrep, hoe, hidle, hok, hsucc, hdesync, hflags, hcause⟩
  | begin =>
    exact ⟨href, nofun, nofun, nofun, by simp, fun _ _ => rfl, nofun, nofun, nofun, nofun, by simp⟩
  | loop _ _ _ hst =>
    have hconf : s.oeQ = true := by
      rcases hst with hst | hst <;> simpa [hst] using hoe
    have hout : s.outQ = s.cfg.outIdle := by
      rcases hst with hst | hst <;> exact hidle (by simp [hst]) (by simp [hst])
    exact CallInv.control ⟨hnow, nofun, BitVec.le_def.mpr (Nat.zero_le _), hconf, fun _ _ => hout, rfl, rfl, rfl⟩ rfl
  | notReady _ _ _ hst =>
    have hns : s.st ≠ .success := by rcases hst with hst | hst <;> simp [hst]
    exact ⟨href, htail, hbit, fun hb' => absurd hb' hnot, hoe, hidle, nofun, fun e => absurd e hns,
      fun _ => ⟨rfl, rfl⟩, fun hb' => absurd hb' hnot, fun hu => ⟨fun _ => hst.resolve_left hu, fun _ => nofun⟩⟩
  | config | frame =>
    exact ⟨href, htail, hbit, fun hb' => absurd hb' hnot, hoe, hidle, hok, hsucc, hdesync, hflags, hcause⟩

/-- The background operations keep the widths, whatever the host and the FSM make of the other registers. -/
theorem inv_endCycle {s v : State} (hcfg : v.cfg = s.cfg)
    (hv : ControlInv v) : Inv (endCycle s v) := by
  have hdb : (debounceEffect s).dbCnt ≤ v.cfg.dbLen - 1 := by
    rw [hcfg]
    rcases debounceEffect_cases s with ⟨-, e⟩ | ⟨-, -, e⟩ | ⟨-, hlt, e⟩ <;> rw [e] <;> simp only <;> omega
  have hrun : (edgeQualifyEffect s).idleRun ≤ v.cfg.gapMin := by
    rw [hcfg, edgeQualifyEffect]
    dsimp only
    split
    · exact Nat.zero_le _
    · exact Nat.min_le_right _ _
  have hnow : s.cfg.addM s.now 1 < v.cfg.modulus := by
    rw [hcfg]
    exact addM_lt _ _ _
  obtain ⟨h1, h2, h3, h4, h5, h6, h7, h8, h9, h10, h11⟩ := hv
  exact ⟨hnow, h1, hdb, hrun, h2, h3, h4, h5, h6, h7, h8, h9, h10, h11⟩

/-- Settles O12: reset establishes the invariants, and each move of the FSM and of the host keeps them. -/
theorem invariantsKept : Obligations.InvariantsKept := by
  intro s hs h
  have hctl : ControlInv s := ⟨h.tRef_lt, h.tail_receive, h.tail_lastBit, h.rep_le, h.oe_configured, h.out_idle,
    h.ok_success, h.success_flags, h.desync_flags, h.busy_flags, h.cause_desync⟩
  cases hr : s.input.rst with
  | true => exact ⟨resetCycle s, step_of_rst s hs hr, inv_reset _ _ _ _⟩
  | false =>
    rcases step_move s hs hr with ⟨-, v, hv, hstep⟩ | ⟨hb, v, hv, hstep⟩ <;> refine ⟨_, hstep, ?_⟩
    · obtain ⟨h1, h2, h3, h4, h5, h6, h7, h8, h9, h10, h11⟩ := fsmMove_controlInv h.now_lt hctl hv
      exact inv_endCycle hv.cfg_eq ⟨h1, h2, h3, h4, h5, h6, h7, h8, h9, h10, h11⟩
    · exact inv_endCycle (by cases hv <;> rfl) (hostMove_controlInv hb h.now_lt hctl hv)

/-! ### On schedule -/

/-- The next slot's drive comes one slot later. -/
theorem driveTarget_succ (p : Config) (i j : Index) (hj : j ≠ 7) :
    p.driveTarget i (j + 1) = p.driveTarget i j + p.tBit := by
  have hsucc : (j + 1).toNat = j.toNat + 1 := by
    revert j
    decide
  rw [Config.driveTarget, Config.driveTarget, hsucc, Nat.succ_mul, Nat.add_assoc]

/-- The last slot of a byte starts seven slots after the byte. -/
theorem driveTarget_last (p : Config) (i : Index) : p.driveTarget i 7 = p.offset i + 7 * p.tBit := rfl

/-- The first slot of a byte starts with the byte. -/
theorem driveTarget_first (p : Config) (i : Index) : p.driveTarget i 0 = p.offset i := by
  rw [Config.driveTarget, show (0 : Index).toNat = 0 from rfl, Nat.zero_mul, Nat.add_zero]

/-- After a move of the FSM, which met its deadline or failed, the deadline of the next wait is not past. -/
theorem onSchedule_endCycle {s v : State} {g : Bool} (hs : s.cfg.structural = true) (hsch : s.cfg.Scheduled)
    (hv : FsmMove s v) : OnSchedule (endCycle s { v with ign := g }) := by
  obtain ⟨⟨hsample1, hsample2⟩, hoff0, hoff⟩ := hsch
  have hstart := one_le_tStart s.cfg hs
  have hlater : v.tRef = s.tRef → (endCycle s { v with ign := g }).elapsed ≤ s.elapsed + 1 := fun hr =>
    (hv.elapsed_later g hr).le.trans (Nat.mod_le _ _)
  have hfresh := hv.elapsed_fresh hs g
  rw [onSchedule_iff]
  intro d hd
  replace hd : waitTarget v = some d := hd
  cases hv with
  | wait _ _ hdue =>
    have := hdue d hd
    have := hlater rfl
    omega
  | startEdge =>
    obtain rfl : s.cfg.tStart = d := Option.some.inj hd
    rw [hfresh rfl]
    exact hstart
  | linkTimeout | late | success | nextRepeat => cases hd
  | windowEnd =>
    obtain rfl : s.cfg.driveTarget 0 0 = d := Option.some.inj hd
    rw [hfresh rfl, driveTarget_first]
    exact hoff0
  | drive hst he =>
    obtain rfl : s.cfg.sampleTarget s.byteIdx s.bitIdx = d := Option.some.inj hd
    have := hlater rfl
    unfold Config.sampleTarget
    omega
  | sample hst htail he hj =>
    obtain rfl : s.cfg.driveTarget s.byteIdx (s.bitIdx + 1) = d := Option.some.inj hd
    have := hlater rfl
    rw [driveTarget_succ _ _ _ hj]
    unfold Config.sampleTarget at he
    omega
  | lastSample hst htail he hj =>
    obtain rfl : s.cfg.endTarget s.byteIdx = d := by simpa [waitTarget, hst] using hd
    have := hlater rfl
    rw [Config.sampleTarget, hj, driveTarget_last] at he
    unfold Config.endTarget
    omega
  | byteEnd hst htail he hi =>
    obtain rfl : s.cfg.driveTarget (s.byteIdx + 1) 0 = d := Option.some.inj hd
    have := hlater rfl
    have hnext := hoff (s.byteIdx + 1) (by revert hi; generalize s.byteIdx = i; revert i; decide)
    rw [show s.byteIdx + 1 - 1 = s.byteIdx by simp] at hnext
    rw [driveTarget_first]
    unfold Config.endTarget at he
    omega

/-- On schedule the FSM does not miss a deadline, so it records no TimingViolation. -/
theorem fsmMove_cause_of_onSchedule {s v : State} (hon : OnSchedule s) (hv : FsmMove s v)
    (hc : v.cause = .timingViolation) : s.cause = .timingViolation := by
  cases hv with
  | late _ _ d hd hlate => exact absurd ((onSchedule_iff s).mp hon d hd) (by omega)
  | linkTimeout => cases hc
  | wait | startEdge | windowEnd | drive | sample | lastSample | byteEnd | success | nextRepeat => exact hc

/-- A block that is not busy waits for no deadline after the cycle either. -/
theorem hostMove_waitTarget {s v : State} (hb : s.busy = false) (hv : HostMove s v) : waitTarget v = none := by
  cases hv with
  | begin => rfl
  | loop => rfl
  | none | notReady | config | frame => cases hst : s.st <;> simp_all [waitTarget, State.busy, FsmState.isBusy]

/-- After a move of the FSM, a start window has just begun or has not passed its end. -/
theorem window_endCycle {s v : State} {g : Bool} (hs : s.cfg.structural = true) (hv : FsmMove s v)
    (hst : v.st = .startConfirmed) : (endCycle s { v with ign := g }).elapsed ≤ v.cfg.tStart := by
  have hlater := hv.elapsed_later g
  have hfresh := hv.elapsed_fresh hs g
  cases hv with
  | wait _ _ hdue =>
    rw [hlater rfl]
    exact (Nat.mod_le _ _).trans (hdue _ (waitTarget_startConfirmed s hst))
  | startEdge =>
    rw [hfresh rfl]
    exact one_le_tStart s.cfg hs
  | lastSample hst' => cases hst'.symm.trans hst
  | linkTimeout | late | windowEnd | drive | sample | byteEnd | success | nextRepeat => cases hst

/-- Settles O54: each move of the FSM that met its deadline has the next one ahead, and the start window begins with
one cycle elapsed. -/
theorem noTimingViolationOnSchedule : Obligations.NoTimingViolationOnSchedule := by
  refine ⟨fun s hs hsch hon => ?_, fun s hs _ => ?_⟩ <;> cases hr : s.input.rst
  case refine_1.true => exact ⟨resetCycle s, step_of_rst s hs hr, trivial, nofun⟩
  case refine_2.true => exact ⟨resetCycle s, step_of_rst s hs hr, nofun⟩
  all_goals
    rcases step_move s hs hr with ⟨hb, v, hv, hstep⟩ | ⟨hb, v, hv, hstep⟩ <;> refine ⟨_, hstep, ?_⟩
  · exact ⟨onSchedule_endCycle hs hsch hv, fun hc => fsmMove_cause_of_onSchedule hon hv hc⟩
  · refine ⟨(onSchedule_iff _).mpr fun d hd => ?_, fun hc => ?_⟩
    · cases (hostMove_waitTarget hb hv).symm.trans hd
    · cases hv with
      | begin | loop | notReady => cases hc
      | none | config | frame => exact hc
  · exact fun hst => window_endCycle hs hv hst
  · intro hst
    cases (hostMove_waitTarget hb hv).symm.trans (waitTarget_startConfirmed v hst)

end Sys2Proof.Laws
end

section
/-! PROOFS. Waiting: a block whose deadline is ahead keeps its registers and counts (41_synchronizer.md R162,
42_transceiver.md R181), so a wait ends in exactly the cycle of its target. -/

namespace Sys2Proof.Laws

open Sys2Proof.Machine Sys2Proof.Safety

/-! ### Decided inputs -/

/-- No reset falls in this cycle or in the `n` that follow it. -/
def NoResetFor (n : Nat) (s : State) : Prop := n < s.pending.length ∧ ∀ j ∈ s.pending, j.rst = false

theorem NoResetFor.rst {n : Nat} {s : State} (h : NoResetFor n s) : s.input.rst = false := by
  obtain ⟨hlen, hrst⟩ := h
  unfold State.input
  cases hp : s.pending with
  | nil => simp [hp] at hlen
  | cons j js => exact hrst j (by simp [hp])

/-- One cycle later, one cycle fewer is decided. -/
theorem NoResetFor.next {n : Nat} {s v : State} (h : NoResetFor (n + 1) s) (hv : v.pending = s.pending) :
    NoResetFor n (endCycle s v) := by
  obtain ⟨hlen, hrst⟩ := h
  refine ⟨?_, fun j hj => hrst j ?_⟩
  · rw [endCycle_pending, hv, List.length_tail]
    omega
  · rw [endCycle_pending, hv] at hj
    exact List.mem_of_mem_tail hj

theorem NoResetFor.mono {m n : Nat} {s : State} (h : NoResetFor n s) (hmn : m ≤ n) : NoResetFor m s :=
  ⟨Nat.lt_of_le_of_lt hmn h.1, h.2⟩

/-- A run starts with its first step. -/
theorem run_succ {M : Host.Core} {n : Nat} {s t : M.State} (h : M.step s = .next t) : M.run (n + 1) s = M.run n t := by
  simp only [Host.Core.run, h]

/-! ### One waiting cycle -/

/-- Where nothing is due, the move of the FSM is to wait. -/
theorem FsmMove.eq_self {s v : State} (hv : FsmMove s v)
    (hawait : s.st = .awaitStart → s.startEdge = false ∧ s.elapsed < awaitBound s)
    (hdue : ∀ d, waitTarget s = some d → s.elapsed < d) : v = s := by
  cases hv with
  | wait => rfl
  | startEdge hst hedge => simp [(hawait hst).1] at hedge
  | linkTimeout hst _ hbound => exact absurd (hawait hst).2 (by omega)
  | late _ _ d hd hlate => exact absurd (hdue d hd) (by omega)
  | windowEnd hst he => exact absurd (hdue _ (waitTarget_startConfirmed s hst)) (by omega)
  | drive hst he => exact absurd (hdue _ (waitTarget_transmitByte s hst)) (by omega)
  | sample hst htail he | lastSample hst htail he => exact absurd (hdue _ (waitTarget_sample s hst htail)) (by omega)
  | byteEnd hst htail he | success hst htail he | nextRepeat hst htail he =>
    exact absurd (hdue _ (waitTarget_byteEnd s hst htail)) (by omega)

/-- A busy block in which nothing is due steps to the end of a cycle that wrote IGN at most. -/
theorem step_wait (s : State) (hs : s.cfg.structural = true) (hr : s.input.rst = false) (hb : s.busy = true)
    (hawait : s.st = .awaitStart → s.startEdge = false ∧ s.elapsed < awaitBound s)
    (hdue : ∀ d, waitTarget s = some d → s.elapsed < d) :
    step s = .next (endCycle s { s with ign := gatedWrite s || s.ign }) := by
  rcases step_move s hs hr with ⟨-, v, hv, hstep⟩ | ⟨hb', -⟩
  · rwa [hv.eq_self hawait hdue] at hstep
  · simp [hb] at hb'

/-- After a waiting cycle short of a target below `2^TW`, one cycle more has elapsed. -/
theorem elapsed_wait (s : State) (g : Bool) (d : Nat) (h : s.elapsed < d) (hd : d < s.cfg.modulus) :
    (endCycle s { s with ign := g }).elapsed = s.elapsed + 1 := by
  rw [endCycle_elapsed_later s { s with ign := g } rfl rfl, Nat.mod_eq_of_lt (by omega)]

/-! ### Waiting for a drive -/

/-- Until the target of a drive the block waits, with the output and the slot as they are. -/
theorem run_to_drive (n : Nat) (s : State) (hs : s.cfg.structural = true) (hst : s.st = .transmitByte)
    (he : s.elapsed + n = s.cfg.driveTarget s.byteIdx s.bitIdx) (hr : NoResetFor n s) :
    ∃ t, core.run n s = .next t ∧ t.cfg = s.cfg ∧ t.st = .transmitByte ∧ t.outQ = s.outQ ∧ t.byteIdx = s.byteIdx
      ∧ t.bitIdx = s.bitIdx ∧ t.txbit = s.txbit ∧ t.elapsed = s.cfg.driveTarget s.byteIdx s.bitIdx
      ∧ NoResetFor 0 t := by
  induction n generalizing s with
  | zero => exact ⟨s, rfl, rfl, hst, rfl, rfl, rfl, rfl, he, hr⟩
  | succ n ih =>
    have htgt := waitTarget_transmitByte s hst
    have hstep := step_wait s hs hr.rst (by simp [State.busy, FsmState.isBusy, hst]) (by simp [hst])
      fun d hd => by
        obtain rfl := Option.some.inj (htgt.symm.trans hd)
        omega
    have hnext : (endCycle s { s with ign := gatedWrite s || s.ign }).elapsed + n
        = s.cfg.driveTarget s.byteIdx s.bitIdx := by
      rw [elapsed_wait s _ _ (by omega) (waitTarget_lt s hs _ htgt), ← he]
      omega
    rw [run_succ (M := core) hstep]
    exact ih _ hs hst hnext (hr.next rfl)

/-- Settles O39: the drive is waited for up to its target, where the FSM's only move is to drive. -/
theorem driveActsAtDeadline : Obligations.DriveActsAtDeadline := by
  intro s hs hst he hlen hrst
  obtain ⟨t, hrun, hcfg, htst, hout, hbyte, hbit, htx, hte, htr⟩ :=
    run_to_drive _ s hs hst (by omega : s.elapsed + _ = s.cfg.driveTarget s.byteIdx s.bitIdx) ⟨hlen, hrst⟩
  rcases step_move t (hcfg ▸ hs) htr.rst with ⟨-, v, hv, hstep⟩ | ⟨hb, -⟩
  · refine ⟨t, _, hrun, htst, hout, hte, hstep, ?_⟩
    have htgt : waitTarget t = some t.elapsed := by rw [waitTarget_transmitByte t htst, hcfg, hbyte, hbit, hte]
    cases hv with
    | drive => exact ⟨rfl, by rw [← htx, ← hcfg]; rfl⟩
    | wait _ _ hdue => exact absurd (hdue _ htgt) (by omega)
    | late _ _ d hd hlate =>
      obtain rfl := Option.some.inj (htgt.symm.trans hd)
      omega
    | startEdge h | linkTimeout h | windowEnd h | sample h | lastSample h | byteEnd h | success h | nextRepeat h =>
      simp [htst] at h
  · simp [State.busy, FsmState.isBusy, htst] at hb

/-! ### Waiting for a start edge on an idle line -/

/-- An idle line has no start edge. -/
theorem lineIdle_startEdge {s : State} (h : LineIdle s) : s.startEdge = false := by
  obtain ⟨-, -, hdb, -⟩ := h
  simp [State.startEdge, State.asserted, hdb]

/-- No reset is decided for an idle line. -/
theorem lineIdle_noReset {s : State} {n : Nat} (h : LineIdle s) (hlen : n < s.pending.length) : NoResetFor n s := by
  obtain ⟨-, -, -, hrest⟩ := h
  exact ⟨hlen, fun j hj => (hrest j hj).2⟩

/-- A line that is idle and stays so in the decided cycles is idle one cycle later. -/
theorem lineIdle_endCycle {s v : State} (h : LineIdle s) (hlen : 0 < s.pending.length) (hcfg : v.cfg = s.cfg)
    (hv : v.pending = s.pending) : LineIdle (endCycle s v) := by
  obtain ⟨h1, h2, hdb, hrest⟩ := h
  have hdb' : (debounceEffect s).inDb = s.inDb := by simp [debounceEffect, h2, hdb]
  have hin : s.input.lancIn = s.cfg.inIdle := by
    unfold State.input
    cases hp : s.pending with
    | nil => simp [hp] at hlen
    | cons j js => exact (hrest j (by simp [hp])).1
  refine ⟨?_, ?_, ?_, fun j hj => ?_⟩
  · rw [endCycle_sync1, endCycle_cfg, hcfg, hin]
  · rw [endCycle_sync2, endCycle_cfg, hcfg, h1]
  · rw [endCycle_inDb, endCycle_cfg, hcfg, hdb', hdb]
  · rw [endCycle_pending, hv] at hj
    rw [endCycle_cfg, hcfg]
    exact hrest j (List.mem_of_mem_tail hj)

/-- Under R9 the bound of the wait for a start edge does not reach `2^TW`. -/
theorem awaitBound_lt (s : State) (hs : s.cfg.structural = true) : awaitBound s < s.cfg.modulus := by
  obtain ⟨-, -, -, -, hcold, hwarm⟩ := (structural_iff _).mp hs
  unfold awaitBound
  split
  · exact hwarm.2
  · exact hcold.2

/-- On an idle line the block waits for a start edge up to the bound, with the output as it is. -/
theorem run_to_timeout (n : Nat) (s : State) (hs : s.cfg.structural = true) (hst : s.st = .awaitStart)
    (hidle : LineIdle s) (he : s.elapsed + n = awaitBound s) (hlen : n < s.pending.length) :
    ∃ t, core.run n s = .next t ∧ t.cfg = s.cfg ∧ t.st = .awaitStart ∧ t.outQ = s.outQ ∧ t.elapsed = awaitBound s
      ∧ awaitBound t = awaitBound s ∧ LineIdle t ∧ 0 < t.pending.length := by
  induction n generalizing s with
  | zero => exact ⟨s, rfl, rfl, hst, rfl, he, rfl, hidle, hlen⟩
  | succ n ih =>
    have hr : NoResetFor (n + 1) s := lineIdle_noReset hidle hlen
    have hstep := step_wait s hs hr.rst (by simp [State.busy, FsmState.isBusy, hst])
      (fun _ => ⟨lineIdle_startEdge hidle, by omega⟩) (by simp [waitTarget, hst])
    have hnext : (endCycle s { s with ign := gatedWrite s || s.ign }).elapsed + n = awaitBound s := by
      rw [elapsed_wait s _ _ (by omega) (awaitBound_lt s hs), ← he]
      omega
    rw [run_succ (M := core) hstep]
    exact ih _ hs hst (lineIdle_endCycle hidle (by omega) rfl rfl) hnext (hr.next rfl).1

/-- Settles O37: the start edge is waited for up to the bound, where the FSM's only move is LinkTimeout. -/
theorem idleLineTimesOut : Obligations.IdleLineTimesOut := by
  intro s hs hst hidle he hlen hout
  obtain ⟨t, hrun, hcfg, htst, htout, hte, htb, htidle, htlen⟩ :=
    run_to_timeout _ s hs hst hidle (by omega : s.elapsed + _ = awaitBound s) hlen
  have hr : NoResetFor 0 t := lineIdle_noReset htidle htlen
  rcases step_move t (hcfg ▸ hs) hr.rst with ⟨-, v, hv, hstep⟩ | ⟨hb, -⟩
  · refine ⟨t, _, hrun, htst, hte, hstep, ?_⟩
    cases hv with
    | linkTimeout => exact ⟨rfl, rfl, rfl, rfl, htout.trans hout, congrArg Config.outIdle hcfg⟩
    | wait _ hawait => exact absurd (hawait htst).2 (by omega)
    | startEdge _ hedge => simp [lineIdle_startEdge htidle] at hedge
    | late _ h | windowEnd h | drive h | sample h | lastSample h | byteEnd h | success h | nextRepeat h =>
      simp [htst] at h
  · simp [State.busy, FsmState.isBusy, htst] at hb

end Sys2Proof.Laws
end

section
/-! PROOFS. Every composite ends (00_scope.md R9: each wait is shorter than `2^TW` cycles, and a call has a fixed number
of waits left), and what its cycles keep holds at its end. -/

namespace Sys2Proof.Laws

open Sys2Proof.Machine Sys2Proof.Safety

/-! ### The waits that are left -/

/-- The waits of a repeat from byte i, with `w` waits of that byte left: a byte is eight drives, eight samples and its
end. -/
def waitsFrom (i : Index) (w : Nat) : Nat := (7 - i.toNat) * 17 + w

/-- The waits that are left until the call has ended: a repeat is the wait for a start edge, the start window and the
waits of eight bytes. -/
def waitsLeft (s : State) : Nat :=
  match s.st with
  | .awaitStart => (s.repeatsM1 - s.rep).toNat * 138 + 138
  | .startConfirmed => (s.repeatsM1 - s.rep).toNat * 138 + 137
  | .transmitByte => (s.repeatsM1 - s.rep).toNat * 138 + waitsFrom s.byteIdx (17 - 2 * s.bitIdx.toNat)
  | .receiveByte =>
    (s.repeatsM1 - s.rep).toNat * 138 + waitsFrom s.byteIdx (if s.tail then 1 else 16 - 2 * s.bitIdx.toNat)
  | .unconfigured | .idle | .success | .desyncFailure => 0

/-- A call has at most four repeats. -/
theorem waitsLeft_le (s : State) : waitsLeft s ≤ 552 := by
  have hrep := (s.repeatsM1 - s.rep).isLt
  unfold waitsLeft waitsFrom
  cases s.st <;> dsimp only <;> try split
  all_goals omega

/-- The next index, below the last one. -/
theorem index_succ (i : Index) (h : i ≠ 7) : (i + 1).toNat = i.toNat + 1 ∧ i.toNat < 7 := by
  revert i
  decide

/-- The next repeat leaves one repeat fewer. -/
theorem repeatsLeft_succ (r m : BitVec 2) (h : r ≠ m) : (m - (r + 1)).toNat + 1 = (m - r).toNat := by
  revert r m
  decide

/-- A move of the FSM either waits or ends a wait, and a wait that ended is not waited again. -/
theorem FsmMove.waitsLeft_lt {s v : State} (hs : s.cfg.structural = true) (hv : FsmMove s v) (hb : v.busy = true) :
    (v = s ∧ s.elapsed + 1 < s.cfg.modulus) ∨ waitsLeft v < waitsLeft s := by
  cases hv with
  | wait hb hawait hdue =>
    refine .inl ⟨rfl, ?_⟩
    cases htgt : waitTarget s with
    | some d =>
      have := hdue d htgt
      have := waitTarget_lt s hs d htgt
      omega
    | none =>
      have hst : s.st = .awaitStart := by
        cases hst : s.st <;> simp_all [waitTarget, State.busy, FsmState.isBusy]
      have := (hawait hst).2
      have := awaitBound_lt s hs
      omega
  | startEdge hst | windowEnd hst => exact .inr (by simp [waitsLeft, waitsFrom, hst])
  | linkTimeout | late | success => simp [State.busy, FsmState.isBusy] at hb
  | drive hst =>
    have := s.bitIdx.isLt
    refine .inr ?_
    simp only [waitsLeft, waitsFrom, hst, Bool.false_eq_true, if_false]
    omega
  | sample hst htail _ hj =>
    obtain ⟨hsucc, hlt⟩ := index_succ s.bitIdx hj
    refine .inr ?_
    simp only [waitsLeft, waitsFrom, hst, htail, hsucc, Bool.false_eq_true, if_false]
    omega
  | lastSample hst htail _ hj => exact .inr (by simp [waitsLeft, waitsFrom, hst, htail, hj])
  | byteEnd hst htail _ hi =>
    obtain ⟨hsucc, hlt⟩ := index_succ s.byteIdx hi
    refine .inr ?_
    simp only [waitsLeft, waitsFrom, hst, htail, if_true, setFrame_repeatsM1, setFrame_rep, hsucc]
    omega
  | nextRepeat hst htail _ hi hrep =>
    have := repeatsLeft_succ s.rep s.repeatsM1 hrep
    refine .inr ?_
    simp only [waitsLeft, waitsFrom, hst, htail, if_true, setFrame_repeatsM1]
    omega

/-! ### The cycles that are left -/

/-- A bound on the cycles that are left: each wait left is shorter than `2^TW`, and the current one has run for the
elapsed time. -/
def cyclesLeft (s : State) : Nat := waitsLeft s * s.cfg.modulus + (s.cfg.modulus - s.elapsed)

theorem cyclesLeft_lt_bound (s : State) : cyclesLeft s < cycleBound s.cfg := by
  have hmul := Nat.mul_le_mul_right s.cfg.modulus (waitsLeft_le s)
  have := modulus_pos s.cfg
  unfold cyclesLeft cycleBound
  omega

/-- Each cycle of a block that stays busy leaves fewer. -/
theorem cyclesLeft_cycle (s : State) (hs : s.cfg.structural = true) (hb : s.busy = true)
    (hb' : (cycle s).busy = true) : cyclesLeft (cycle s) < cyclesLeft s := by
  cases hr : s.input.rst with
  | true => simp [cycle, hr, resetCycle, State.resetWith, State.busy, FsmState.isBusy] at hb'
  | false =>
    obtain ⟨v, hv, e⟩ := cycle_move s hr hb
    rw [e] at hb' ⊢
    have hcfg : v.cfg.modulus = s.cfg.modulus := by rw [hv.cfg_eq]
    have hleft : cyclesLeft (endCycle s { v with ign := gatedWrite s || s.ign })
        = waitsLeft v * s.cfg.modulus
          + (s.cfg.modulus - (endCycle s { v with ign := gatedWrite s || s.ign }).elapsed) := by
      rw [← hcfg]
      rfl
    have hlt := elapsed_lt s
    rw [hleft, cyclesLeft]
    rcases hv.waitsLeft_lt hs hb' with ⟨hself, hnext⟩ | hwaits
    · rw [hv.elapsed_later _ (by rw [hself]), Nat.mod_eq_of_lt hnext, hself]
      omega
    · have hmul := Nat.mul_le_mul_right s.cfg.modulus hwaits
      rw [Nat.succ_mul] at hmul
      omega

/-! ### Cycles while a condition holds -/

theorem runWhile_of_not (p : State → Bool) (n : Nat) (s : State) (h : p s = false) : runWhile p n s = s := by
  cases n <;> simp [runWhile, h]

theorem runWhile_succ (p : State → Bool) (n : Nat) (s : State) (h : p s = true) :
    runWhile p (n + 1) s = runWhile p n (cycle s) := if_pos h

section
variable {p : State → Bool} (hp : ∀ u, p u = true → u.busy = true)
include hp

/-- Cycles of a busy block, as many as can be left, end with the condition false and keep what each of them keeps. -/
theorem runWhile_keeps {I : State → Prop} (hkeep : ∀ u, u.cfg.structural = true → I u → p u = true → I (cycle u))
    (n : Nat) (s : State) (hs : s.cfg.structural = true) (hI : I s) (hn : s.busy = true → cyclesLeft s < n) :
    I (runWhile p n s) ∧ p (runWhile p n s) = false := by
  cases hps : p s with
  | false => rw [runWhile_of_not p n s hps]; exact ⟨hI, hps⟩
  | true =>
    induction n generalizing s with
    | zero => exact absurd (hn (hp s hps)) (Nat.not_lt_zero _)
    | succ n ih =>
      have hs' : (cycle s).cfg.structural = true := by rwa [cycle_cfg]
      have hI' := hkeep s hs hI hps
      rw [runWhile_succ p n s hps]
      cases hps' : p (cycle s) with
      | false => rw [runWhile_of_not p n _ hps']; exact ⟨hI', hps'⟩
      | true =>
        refine ih (cycle s) hs' hI' (fun hb' => ?_) hps'
        have := cyclesLeft_cycle s hs (hp s hps) hb'
        have := hn (hp s hps)
        omega

/-- A composite ends with its condition false, and what each of its cycles keeps holds at its end. -/
theorem runComposite_keeps {I : State → Prop}
    (hkeep : ∀ u, u.cfg.structural = true → I u → p u = true → I (cycle u))
    (s : State) (hs : s.cfg.structural = true) (hI : I s) :
    I (runComposite p s) ∧ p (runComposite p s) = false :=
  runWhile_keeps hp hkeep (cycleBound s.cfg) s hs hI fun _ => cyclesLeft_lt_bound s

/-- The same of what each move of the FSM keeps, unless a reset ends the composite. -/
theorem runComposite_moves {K : State → Prop}
    (hkeep : ∀ u v g, u.cfg.structural = true → K u → p u = true → FsmMove u v → (u.ign = true → g = true) →
      K (endCycle u { v with ign := g }))
    (s : State) (hs : s.cfg.structural = true) (hK : K s) :
    ((runComposite p s).st ≠ .unconfigured → K (runComposite p s)) ∧ p (runComposite p s) = false := by
  refine runComposite_keeps hp (I := fun u => u.st ≠ .unconfigured → K u) (fun u hu hI hpu => ?_) s hs fun _ => hK
  cases hr : u.input.rst with
  | true => intro h; simp [cycle, hr, resetCycle, State.resetWith] at h
  | false =>
    obtain ⟨v, hv, e⟩ := cycle_move u hr (hp u hpu)
    have hst : u.st ≠ .unconfigured := fun h => by simpa [State.busy, FsmState.isBusy, h] using hp u hpu
    rw [e]
    exact fun _ => hkeep u v _ hu (hI hst) hpu hv fun hi => by simp [hi]

end

end Sys2Proof.Laws
end

section
/-! PROOFS. SYNC_TRANSMISSION (41_synchronizer.md R165): the waits for a start edge and for the end of its window, from
any state to the origin of the frame or to a failure. -/

namespace Sys2Proof.Laws

open Sys2Proof.Machine Sys2Proof.Safety

/-- The registers that no cycle of a call writes before a byte end, and IGN, which none clears. -/
structure Kept (s u : State) : Prop where
  cfg : u.cfg = s.cfg
  frame : u.frame = s.frame
  repeatsM1 : u.repeatsM1 = s.repeatsM1
  oeQ : u.oeQ = s.oeQ
  rep : u.rep = s.rep
  warm : u.warm = s.warm
  ign : s.ign = true → u.ign = true

theorem Kept.refl (s : State) : Kept s s := ⟨rfl, rfl, rfl, rfl, rfl, rfl, id⟩

/-- A move of the FSM other than a byte end writes none of them. -/
theorem Kept.move {s u v : State} {g : Bool} (h : Kept s u) (hv : FsmMove u v) (hg : u.ign = true → g = true)
    (hframe : v.frame = u.frame) (hrep : v.rep = u.rep) (hwarm : v.warm = u.warm) :
    Kept s (endCycle u { v with ign := g }) where
  cfg := hv.cfg_eq.trans h.cfg
  frame := hframe.trans h.frame
  repeatsM1 := hv.repeatsM1_eq.trans h.repeatsM1
  oeQ := hv.oeQ_eq.trans h.oeQ
  rep := hrep.trans h.rep
  warm := hwarm.trans h.warm
  ign := fun hi => hg (h.ign hi)

/-- The result registers, which a call writes at its end alone. -/
structure SameResult (s u : State) : Prop where
  done : u.done = s.done
  ok : u.ok = s.ok
  cause : u.cause = s.cause

/-! ### What SYNC_TRANSMISSION does -/

theorem inSync_iff (s : State) : inSync s = true ↔ s.st = .awaitStart ∨ s.st = .startConfirmed := by simp [inSync]

theorem busy_of_inSync (s : State) (h : inSync s = true) : s.busy = true := by
  rcases (inSync_iff s).mp h with h | h <;> simp [State.busy, FsmState.isBusy, h]

/-- Where SYNC_TRANSMISSION can be that began in `s`: in its waits, at the origin of the frame, or in a failure. -/
inductive SyncPhase (s u : State) : Prop where
  | waits (hst : inSync u = true) (hbyte : u.byteIdx = s.byteIdx) (hbit : u.bitIdx = s.bitIdx) (hout : u.outQ = s.outQ)
      (htail : u.tail = s.tail) (hres : SameResult s u)
  | origin (hst : u.st = .transmitByte) (hbyte : u.byteIdx = 0) (hbit : u.bitIdx = 0) (he : u.elapsed = 1)
      (hout : u.outQ = s.outQ) (htail : u.tail = s.tail) (hres : SameResult s u)
  | failed (hst : u.st = .desyncFailure) (hbyte : u.byteIdx = s.byteIdx) (hbit : u.bitIdx = s.bitIdx)
      (hout : u.outQ = s.cfg.outIdle) (htail : u.tail = false) (hdone : u.done = true) (hok : u.ok = false)

/-- What holds of the states of SYNC_TRANSMISSION that began in `s`. -/
structure SyncState (s u : State) : Prop where
  kept : Kept s u
  rxShift : u.rxShift = s.rxShift
  phase : SyncPhase s u

/-- Each move of the waits of SYNC_TRANSMISSION stays in them, sets the origin or fails. -/
theorem SyncState.move {s u v : State} {g : Bool} (hu : u.cfg.structural = true) (h : SyncState s u)
    (hin : inSync u = true) (hv : FsmMove u v) (hg : u.ign = true → g = true) :
    SyncState s (endCycle u { v with ign := g }) := by
  obtain ⟨hkept, hrx, hphase⟩ := h
  have hst := (inSync_iff u).mp hin
  have hfresh := hv.elapsed_fresh hu g
  cases hphase with
  | origin h | failed h => simp [h] at hst
  | waits _ hbyte hbit hout htail hres =>
    have hres' : ∀ t : State, t.done = u.done → t.ok = u.ok → t.cause = u.cause → SameResult s t :=
      fun t h1 h2 h3 => ⟨h1.trans hres.done, h2.trans hres.ok, h3.trans hres.cause⟩
    have hidle : u.cfg.outIdle = s.cfg.outIdle := congrArg _ hkept.cfg
    have hkeep := fun h1 h2 h3 => hkept.move hv hg h1 h2 h3
    cases hv with
    | wait => exact ⟨hkeep rfl rfl rfl, hrx, .waits hin hbyte hbit hout htail (hres' _ rfl rfl rfl)⟩
    | startEdge => exact ⟨hkeep rfl rfl rfl, hrx, .waits rfl hbyte hbit hout htail (hres' _ rfl rfl rfl)⟩
    | windowEnd => exact ⟨hkeep rfl rfl rfl, hrx, .origin rfl rfl rfl (hfresh rfl) hout htail (hres' _ rfl rfl rfl)⟩
    | linkTimeout | late => exact ⟨hkeep rfl rfl rfl, hrx, .failed rfl hbyte hbit hidle rfl rfl rfl⟩
    | drive h | sample h | lastSample h | byteEnd h | success h | nextRepeat h => simp [h] at hst

/-- SYNC_TRANSMISSION in its waits ends at the origin or in a failure, unless a reset ends it. -/
theorem runComposite_inSync (s : State) (hs : s.cfg.structural = true) (hin : inSync s = true) :
    ((runComposite inSync s).st ≠ .unconfigured → SyncState s (runComposite inSync s))
      ∧ inSync (runComposite inSync s) = false :=
  runComposite_moves busy_of_inSync (fun _ _ _ hu hK hpu hv hg => hK.move hu hpu hv hg) s hs
    ⟨.refl s, rfl, .waits hin rfl rfl rfl rfl ⟨rfl, rfl, rfl⟩⟩

/-! ### That it completes -/

/-- SYNC_TRANSMISSION is on its way to the origin, with no reset on it, or there. -/
def SyncCompletes (u : State) : Prop :=
  (u.st = .awaitStart ∧ u.startEdge = true ∧ NoResetFor u.cfg.tStart u)
    ∨ (u.st = .startConfirmed ∧ u.elapsed ≤ u.cfg.tStart ∧ NoResetFor (u.cfg.tStart - u.elapsed) u)
    ∨ u.st = .transmitByte

theorem SyncCompletes.next {u : State} (hu : u.cfg.structural = true) (h : SyncCompletes u) (hin : inSync u = true) :
    SyncCompletes (cycle u) := by
  have hstart := one_le_tStart u.cfg hu
  rcases h with ⟨hst, hedge, hr⟩ | ⟨hst, he, hr⟩ | hst
  · obtain ⟨v, hv, e⟩ := cycle_move u hr.rst (busy_of_inSync u hin)
    have hfresh := hv.elapsed_fresh hu (gatedWrite u || u.ign)
    rw [e]
    cases hv with
    | startEdge =>
      have hr' : NoResetFor (u.cfg.tStart - 1 + 1) u := hr.mono (by omega)
      refine .inr (.inl ⟨rfl, ?_, ?_⟩) <;> rw [hfresh rfl]
      · exact hstart
      · exact hr'.next rfl
    | wait _ hawait => simp [(hawait hst).1] at hedge
    | linkTimeout _ h => simp [h] at hedge
    | late _ h => exact absurd hst h
    | windowEnd h | drive h | sample h | lastSample h | byteEnd h | success h | nextRepeat h => simp [hst] at h
  · obtain ⟨v, hv, e⟩ := cycle_move u hr.rst (busy_of_inSync u hin)
    have htgt := waitTarget_startConfirmed u hst
    have hlt := waitTarget_lt u hu _ htgt
    have hlater := hv.elapsed_later (gatedWrite u || u.ign)
    rw [e]
    cases hv with
    | wait _ _ hdue =>
      have hdue := hdue _ htgt
      have helapsed := (hlater rfl).trans (Nat.mod_eq_of_lt (by omega))
      have hr' : NoResetFor (u.cfg.tStart - (u.elapsed + 1) + 1) u := hr.mono (by omega)
      refine .inr (.inl ⟨hst, ?_, ?_⟩) <;> rw [helapsed]
      · exact hdue
      · exact hr'.next rfl
    | windowEnd => exact .inr (.inr rfl)
    | late _ _ d hd hlate =>
      obtain rfl := Option.some.inj (htgt.symm.trans hd)
      omega
    | startEdge h | linkTimeout h | drive h | sample h | lastSample h | byteEnd h | success h | nextRepeat h =>
      simp [hst] at h
  · simp [inSync, hst] at hin

/-- Settles O46: the composite runs the moves of its waits to their end, and from a start edge or a window that is on
schedule they lead to the origin. -/
theorem syncTransmissionEnds : Obligations.SyncTransmissionEnds := by
  intro s hs
  refine ⟨runComposite inSync s, elaborated_of_structural s _ hs, fun hin => runWhile_of_not _ _ s hin,
    fun hin hreset => ?_, fun hstart hrst hlen => ?_⟩
  · obtain ⟨hend, hout⟩ := runComposite_inSync s hs hin
    obtain ⟨hkept, hrx, hphase⟩ := hend hreset
    refine ⟨hkept.frame, hkept.repeatsM1, hkept.oeQ, hkept.rep, hkept.warm, hrx, hkept.ign, ?_⟩
    cases hphase with
    | waits h => simp [h] at hout
    | origin hst hbyte hbit he hout htail hres =>
      exact .inl ⟨hst, hbyte, hbit, he, hout, htail, hres.done, hres.ok, hres.cause⟩
    | failed hst hbyte hbit hout htail hdone hok => exact .inr ⟨hst, hbyte, hbit, hout, htail, hdone, hok⟩
  · have hbegin : SyncCompletes s := by
      rcases hstart with ⟨hst, hedge⟩ | ⟨hst, he⟩
      · exact .inl ⟨hst, hedge, hlen, hrst⟩
      · exact .inr (.inl ⟨hst, he, by omega, hrst⟩)
    obtain ⟨hend, hout⟩ := runComposite_keeps busy_of_inSync (fun _ hu hI hpu => hI.next hu hpu) s hs hbegin
    rcases hend with ⟨hst, -⟩ | ⟨hst, -⟩ | hst
    · simp [inSync, hst] at hout
    · simp [inSync, hst] at hout
    · exact hst

end Sys2Proof.Laws
end

section
/-! PROOFS. TRANSMIT_BYTE (42_transceiver.md R187): the drives and samples of a byte up to its eighth drive. -/

namespace Sys2Proof.Laws

open Sys2Proof.Machine Sys2Proof.Safety

/-! ### The slots of a byte -/

/-- No drive of a byte comes after its last. -/
theorem driveTarget_le_last (p : Config) (i j : Index) : p.driveTarget i j ≤ p.driveTarget i 7 := by
  have hj : j.toNat ≤ 7 := by have := j.isLt; omega
  exact Nat.add_le_add_left (Nat.mul_le_mul_right p.tBit hj) _

/-- On a schedule of R10, every sample but the last comes before the last drive. -/
theorem sampleTarget_lt_last (p : Config) (hsch : p.Scheduled) (i j : Index) (hj : j ≠ 7) :
    p.sampleTarget i j < p.driveTarget i 7 := by
  obtain ⟨⟨hlo, hhi⟩, -⟩ := hsch
  have := driveTarget_le_last p i (j + 1)
  rw [driveTarget_succ p i j hj] at this
  unfold Config.sampleTarget
  omega

theorem inByte_iff (i : Index) (s : State) :
    inByte i s = true ↔ (s.st = .transmitByte ∨ s.st = .receiveByte) ∧ s.byteIdx = i := by simp [inByte]

theorem busy_of_inByte (i : Index) (s : State) (h : inByte i s = true) : s.busy = true := by
  rcases ((inByte_iff i s).mp h).1 with h | h <;> simp [State.busy, FsmState.isBusy, h]

theorem beforeLastDrive_iff (i : Index) (s : State) :
    beforeLastDrive i s = true
      ↔ (s.st = .transmitByte ∧ s.byteIdx = i) ∨ (s.st = .receiveByte ∧ s.byteIdx = i ∧ s.bitIdx ≠ 7) := by
  rw [beforeLastDrive, Bool.and_eq_true, inByte_iff]
  cases s.st <;> simp

theorem busy_of_beforeLastDrive (i : Index) (s : State) (h : beforeLastDrive i s = true) : s.busy = true :=
  busy_of_inByte i s (Bool.and_eq_true_iff.mp h).1

/-! ### What TRANSMIT_BYTE does -/

/-- Where TRANSMIT_BYTE can be that began in `s`: before a drive, after one with its bit on the output, or in a
TimingViolation. -/
inductive DrivePhase (s u : State) : Prop where
  | drive (hst : u.st = .transmitByte) (hres : SameResult s u)
  | driven (hst : u.st = .receiveByte) (htail : u.tail = false)
      (hout : u.outQ = s.cfg.pinlevel (bitOf (s.frameByte s.byteIdx) u.bitIdx)) (hres : SameResult s u)
  | failed (hst : u.st = .desyncFailure) (htail : u.tail = false) (hout : u.outQ = s.cfg.outIdle)
      (hdone : u.done = true) (hok : u.ok = false) (hcause : u.cause = .timingViolation)

/-- What holds of the states of TRANSMIT_BYTE that began in `s`. -/
structure DriveState (s u : State) : Prop where
  kept : Kept s u
  tRef : u.tRef = s.tRef
  byteIdx : u.byteIdx = s.byteIdx
  phase : DrivePhase s u

/-- The bit of the current slot is that of the byte that TRANSMIT_BYTE began with. -/
theorem DriveState.txbit {s u : State} (h : DriveState s u) :
    u.txbit = bitOf (s.frameByte s.byteIdx) u.bitIdx := by
  unfold State.txbit State.frameByte
  rw [h.byteIdx]
  simp only [h.kept.frame]

/-- Each move before the eighth drive goes on with the byte or fails. -/
theorem DriveState.move {s u v : State} {g : Bool} (h : DriveState s u)
    (hbefore : beforeLastDrive s.byteIdx u = true) (hv : FsmMove u v) (hg : u.ign = true → g = true) :
    DriveState s (endCycle u { v with ign := g }) := by
  have htx := h.txbit
  obtain ⟨hkept, href, hbyte, hphase⟩ := h
  have hst := (beforeLastDrive_iff _ u).mp hbefore
  have hkeep := fun h1 h2 h3 => hkept.move hv hg h1 h2 h3
  have hres' : ∀ t : State, SameResult s u → t.done = u.done → t.ok = u.ok → t.cause = u.cause → SameResult s t :=
    fun t hres h1 h2 h3 => ⟨h1.trans hres.done, h2.trans hres.ok, h3.trans hres.cause⟩
  have hidle : u.cfg.outIdle = s.cfg.outIdle := congrArg _ hkept.cfg
  have hpin : u.cfg.pinlevel u.txbit = s.cfg.pinlevel (bitOf (s.frameByte s.byteIdx) u.bitIdx) := by
    rw [hkept.cfg, htx]
  cases hv with
  | wait =>
    refine ⟨hkeep rfl rfl rfl, href, hbyte, ?_⟩
    cases hphase with
    | drive h hres => exact .drive h (hres' _ hres rfl rfl rfl)
    | driven h htail hout hres => exact .driven h htail hout (hres' _ hres rfl rfl rfl)
    | failed h => simp [h] at hst
  | late => exact ⟨hkeep rfl rfl rfl, href, hbyte, .failed rfl rfl hidle rfl rfl rfl⟩
  | drive hdrive =>
    cases hphase with
    | drive _ hres => exact ⟨hkeep rfl rfl rfl, href, hbyte, .driven rfl rfl hpin (hres' _ hres rfl rfl rfl)⟩
    | driven h | failed h => simp [h] at hdrive
  | sample hsample =>
    cases hphase with
    | driven _ _ _ hres => exact ⟨hkeep rfl rfl rfl, href, hbyte, .drive rfl (hres' _ hres rfl rfl rfl)⟩
    | drive h | failed h => simp [h] at hsample
  | byteEnd hend htail | success hend htail | nextRepeat hend htail =>
    cases hphase with
    | driven _ h => simp [h] at htail
    | drive h | failed h => simp [h] at hend
  | lastSample h _ _ hj => simp [h, hj] at hst
  | startEdge h | linkTimeout h | windowEnd h => simp [h] at hst

/-- TRANSMIT_BYTE ends after the eighth drive or in a failure, unless a reset ends it. -/
theorem runComposite_beforeLastDrive (s : State) (hs : s.cfg.structural = true) (hst : s.st = .transmitByte) :
    ((runComposite (beforeLastDrive s.byteIdx) s).st ≠ .unconfigured
        → DriveState s (runComposite (beforeLastDrive s.byteIdx) s))
      ∧ beforeLastDrive s.byteIdx (runComposite (beforeLastDrive s.byteIdx) s) = false :=
  runComposite_moves (busy_of_beforeLastDrive _) (fun _ _ _ _ hK hpu hv hg => hK.move hpu hv hg) s hs
    ⟨.refl s, rfl, rfl, .drive hst ⟨rfl, rfl, rfl⟩⟩

/-! ### That it completes -/

/-- TRANSMIT_BYTE of byte i is on schedule, with no reset before its eighth drive. -/
structure DriveCompletes (i : Index) (u : State) : Prop where
  st : u.st = .transmitByte ∨ (u.st = .receiveByte ∧ u.tail = false)
  byteIdx : u.byteIdx = i
  scheduled : u.cfg.Scheduled
  onSchedule : OnSchedule u
  noReset : beforeLastDrive i u = true → NoResetFor (u.cfg.driveTarget i 7 - u.elapsed) u

/-- Short of a target, a cycle that keeps the timing reference uses up one of the cycles decided up to the target. -/
theorem NoResetFor.beforeTarget {u v : State} {g : Bool} {d : Nat} (hv : FsmMove u v)
    (hr : NoResetFor (d - u.elapsed) u) (hlt : u.elapsed < d) (hd : d < u.cfg.modulus) (href : v.tRef = u.tRef) :
    NoResetFor (d - (endCycle u { v with ign := g }).elapsed) (endCycle u { v with ign := g }) := by
  rw [hv.elapsed_later g href, Nat.mod_eq_of_lt (by omega)]
  have hr' : NoResetFor (d - (u.elapsed + 1) + 1) u := hr.mono (by omega)
  exact hr'.next hv.pending_eq

theorem driveTarget_lt_modulus (p : Config) (hp : p.structural = true) (i j : Index) :
    p.driveTarget i j < p.modulus := by
  have hend := endTarget_lt_modulus p hp i
  have := driveTarget_le_last p i j
  rw [driveTarget_last] at this
  unfold Config.endTarget at hend
  omega

theorem DriveCompletes.next {i : Index} {u : State} (hu : u.cfg.structural = true) (h : DriveCompletes i u)
    (hbefore : beforeLastDrive i u = true) : DriveCompletes i (cycle u) := by
  obtain ⟨hst, hbyte, hsch, hon, hr⟩ := h
  have hr := hr hbefore
  have hslot := (beforeLastDrive_iff i u).mp hbefore
  obtain ⟨v, hv, e⟩ := cycle_move u hr.rst (busy_of_beforeLastDrive i u hbefore)
  have hon' := onSchedule_endCycle (g := gatedWrite u || u.ign) hu hsch hv
  have hnext : ∀ (hlt : u.elapsed < u.cfg.driveTarget i 7) (href : v.tRef = u.tRef),
      NoResetFor _ (endCycle u { v with ign := gatedWrite u || u.ign }) := fun hlt href =>
    hr.beforeTarget (g := gatedWrite u || u.ign) hv hlt (driveTarget_lt_modulus _ hu i 7) href
  rw [e]
  cases hv with
  | wait _ _ hdue =>
    refine ⟨hst, hbyte, hsch, hon', fun _ => hnext ?_ rfl⟩
    rcases hst with hst | ⟨hst, htail⟩
    · have := driveTarget_le_last u.cfg i u.bitIdx
      have := hdue _ (waitTarget_transmitByte u hst)
      rw [hbyte] at this
      omega
    · have := sampleTarget_lt_last u.cfg hsch i u.bitIdx (by simpa [hst, hbyte] using hslot)
      have := hdue _ (waitTarget_sample u hst htail)
      rw [hbyte] at this
      omega
  | late _ _ d hd hlate => exact absurd ((onSchedule_iff u).mp hon d hd) (by omega)
  | drive _ he =>
    refine ⟨.inr ⟨rfl, rfl⟩, hbyte, hsch, hon', fun h => hnext ?_ rfl⟩
    have hj : u.bitIdx ≠ 7 := by simpa [beforeLastDrive_iff, hbyte] using h
    have := sampleTarget_lt_last u.cfg hsch i u.bitIdx hj
    rw [Config.sampleTarget] at this
    rw [hbyte] at he
    omega
  | sample _ _ he hj =>
    refine ⟨.inl rfl, hbyte, hsch, hon', fun h => hnext ?_ rfl⟩
    have := sampleTarget_lt_last u.cfg hsch i u.bitIdx hj
    rw [hbyte] at he
    omega
  | byteEnd h htail | success h htail | nextRepeat h htail => simp [h, htail] at hst
  | lastSample h _ _ hj => simp [h, hj] at hslot
  | startEdge h | linkTimeout h | windowEnd h => simp [h] at hst

/-- Settles O47: the composite runs the moves before the eighth drive to their end, and on schedule none of them
fails. -/
theorem transmitByteEnds : Obligations.TransmitByteEnds := by
  intro s hs hst
  refine ⟨runComposite (beforeLastDrive s.byteIdx) s, elaborated_of_structural s _ hs, fun hreset => ?_,
    fun hsch hon hrst hlen => ?_⟩
  · obtain ⟨hend, hout⟩ := runComposite_beforeLastDrive s hs hst
    obtain ⟨hkept, href, hbyte, hphase⟩ := hend hreset
    refine ⟨hkept.frame, hkept.repeatsM1, hkept.oeQ, hkept.rep, hkept.warm, href, hbyte, ?_⟩
    cases hphase with
    | drive h => exact absurd ((beforeLastDrive_iff _ _).mpr (.inl ⟨h, hbyte⟩)) (by simp [hout])
    | driven h htail hpin hres =>
      have hbit : (runComposite (beforeLastDrive s.byteIdx) s).bitIdx = 7 := by
        by_contra hne
        exact absurd ((beforeLastDrive_iff _ _).mpr (.inr ⟨h, hbyte, hne⟩)) (by simp [hout])
      rw [hbit] at hpin
      exact ⟨htail, hkept.ign, .inl ⟨h, hbit, hpin, hres.done, hres.ok, hres.cause⟩⟩
    | failed h htail hpin hdone hok hcause => exact ⟨htail, hkept.ign, .inr ⟨h, hpin, hdone, hok, hcause⟩⟩
  · have hbegin : DriveCompletes s.byteIdx s := ⟨.inl hst, rfl, hsch, hon, fun _ => ⟨hlen, hrst⟩⟩
    obtain ⟨hend, hout⟩ := runComposite_keeps (busy_of_beforeLastDrive s.byteIdx)
      (fun _ hu hI hpu => hI.next hu hpu) s hs hbegin
    rcases hend.st with h | h
    · exact absurd ((beforeLastDrive_iff _ _).mpr (.inl ⟨h, hend.byteIdx⟩)) (by simp [hout])
    · exact h.1

end Sys2Proof.Laws
end

section
/-! PROOFS. RECEIVE_BYTE (42_transceiver.md R191): the exchange of a byte up to its end. -/

namespace Sys2Proof.Laws

open Sys2Proof.Machine Sys2Proof.Safety

/-! ### What RECEIVE_BYTE does -/

/-- The received byte is stored in the frame, and nothing else of it has changed since `s` (R190). -/
structure ByteStored (s u : State) : Prop where
  cfg : u.cfg = s.cfg
  repeatsM1 : u.repeatsM1 = s.repeatsM1
  oeQ : u.oeQ = s.oeQ
  ign : s.ign = true → u.ign = true
  outQ : u.outQ = s.cfg.outIdle
  tail : u.tail = false
  stored : u.frameByte s.byteIdx = u.rxShift
  others : ∀ k, k ≠ s.byteIdx → u.frameByte k = s.frameByte k

/-- A byte end stores the received byte. -/
theorem ByteStored.of_byteEnd {s u v : State} {g : Bool} (hkept : Kept s u) (hbyte : u.byteIdx = s.byteIdx)
    (hv : FsmMove u v) (hg : u.ign = true → g = true) (hframe : v.frame = (u.setFrame u.byteIdx u.rxShift).frame)
    (hrx : v.rxShift = u.rxShift) (hout : v.outQ = u.cfg.outIdle) (htail : v.tail = false) :
    ByteStored s (endCycle u { v with ign := g }) := by
  have hbytes : ∀ k, (endCycle u { v with ign := g }).frameByte k
      = if k = s.byteIdx then u.rxShift else s.frameByte k := fun k => by
    have hset : v.frameByte k = (u.setFrame u.byteIdx u.rxShift).frameByte k := by
      unfold State.frameByte
      rw [hframe]
    have hold : u.frameByte k = s.frameByte k := by
      unfold State.frameByte
      rw [hkept.frame]
    rw [← hbyte, ← hold]
    exact hset.trans (frameByte_setFrame u _ k _)
  refine ⟨hv.cfg_eq.trans hkept.cfg, hv.repeatsM1_eq.trans hkept.repeatsM1, hv.oeQ_eq.trans hkept.oeQ,
    fun hi => hg (hkept.ign hi), hout.trans (congrArg _ hkept.cfg), htail, ?_, fun k hk => ?_⟩
  · rw [hbytes, if_pos rfl]
    exact hrx.symm
  · rw [hbytes, if_neg hk]

/-- Where RECEIVE_BYTE can be that began in `s`: in the byte, after its end in one of three states, or in a
TimingViolation. -/
inductive ReceivePhase (s u : State) : Prop where
  | exchange (hin : inByte s.byteIdx u = true) (hkept : Kept s u) (href : u.tRef = s.tRef) (hres : SameResult s u)
  | nextByte (hstored : ByteStored s u) (hi : s.byteIdx ≠ 7) (hst : u.st = .transmitByte)
      (hbyte : u.byteIdx = s.byteIdx + 1) (hbit : u.bitIdx = 0) (href : u.tRef = s.tRef) (hrep : u.rep = s.rep)
      (hwarm : u.warm = s.warm) (hres : SameResult s u)
  | success (hstored : ByteStored s u) (hi : s.byteIdx = 7) (hst : u.st = .success) (hbyte : u.byteIdx = 0)
      (hbit : u.bitIdx = 0)
  | nextRepeat (hstored : ByteStored s u) (hi : s.byteIdx = 7) (hst : u.st = .awaitStart) (hbyte : u.byteIdx = 0)
      (hbit : u.bitIdx = 0) (hrep : u.rep = s.rep + 1) (hmore : s.rep ≠ s.repeatsM1)
  | failed (hkept : Kept s u) (hst : u.st = .desyncFailure) (hbyte : u.byteIdx = s.byteIdx) (href : u.tRef = s.tRef)
      (hout : u.outQ = s.cfg.outIdle) (htail : u.tail = false) (hdone : u.done = true) (hok : u.ok = false)
      (hcause : u.cause = .timingViolation)

/-- After the byte the state is not in it. -/
theorem inByte_next {i : Index} {u : State} (hbyte : u.byteIdx = i + 1) : inByte i u = false := by
  have hne : i + 1 ≠ i := by
    clear hbyte
    revert i
    decide
  rw [← Bool.not_eq_true, inByte_iff, hbyte]
  exact fun h => hne h.2

/-- In the byte, RECEIVE_BYTE is in its exchange. -/
theorem ReceivePhase.exchange_of_inByte {s u : State} (h : ReceivePhase s u) (hin : inByte s.byteIdx u = true) :
    Kept s u ∧ u.tRef = s.tRef ∧ SameResult s u := by
  cases h with
  | exchange _ hkept href hres => exact ⟨hkept, href, hres⟩
  | nextByte _ _ _ hbyte => simp [inByte_next hbyte] at hin
  | success _ _ hst | nextRepeat _ _ hst | failed _ hst => simp [inByte, hst] at hin

/-- Each move in the byte goes on with it, ends it or fails. -/
theorem ReceivePhase.move {s u v : State} {g : Bool} (h : ReceivePhase s u) (hin : inByte s.byteIdx u = true)
    (hv : FsmMove u v) (hg : u.ign = true → g = true) : ReceivePhase s (endCycle u { v with ign := g }) := by
  obtain ⟨hkept, href, hres⟩ := h.exchange_of_inByte hin
  obtain ⟨hst, hbyte⟩ := (inByte_iff _ u).mp hin
  have hres' : ∀ t : State, t.done = u.done → t.ok = u.ok → t.cause = u.cause → SameResult s t :=
    fun t h1 h2 h3 => ⟨h1.trans hres.done, h2.trans hres.ok, h3.trans hres.cause⟩
  have hidle : u.cfg.outIdle = s.cfg.outIdle := congrArg _ hkept.cfg
  have hkeep := fun h1 h2 h3 => hkept.move hv hg h1 h2 h3
  have hstored := fun h1 h2 h3 h4 => ByteStored.of_byteEnd hkept hbyte hv hg h1 h2 h3 h4
  cases hv with
  | wait => exact .exchange hin (hkeep rfl rfl rfl) href (hres' _ rfl rfl rfl)
  | drive => exact .exchange ((inByte_iff _ _).mpr ⟨.inr rfl, hbyte⟩) (hkeep rfl rfl rfl) href (hres' _ rfl rfl rfl)
  | sample => exact .exchange ((inByte_iff _ _).mpr ⟨.inl rfl, hbyte⟩) (hkeep rfl rfl rfl) href (hres' _ rfl rfl rfl)
  | lastSample => exact .exchange hin (hkeep rfl rfl rfl) href (hres' _ rfl rfl rfl)
  | late => exact .failed (hkeep rfl rfl rfl) rfl hbyte href hidle rfl rfl rfl rfl
  | byteEnd _ _ _ hi =>
    exact .nextByte (hstored rfl rfl rfl rfl) (hbyte ▸ hi) rfl (congrArg (· + 1) hbyte) rfl href hkept.rep hkept.warm
      (hres' _ rfl rfl rfl)
  | success _ _ _ hi => exact .success (hstored rfl rfl rfl rfl) (hbyte ▸ hi) rfl rfl rfl
  | nextRepeat _ _ _ hi hmore =>
    exact .nextRepeat (hstored rfl rfl rfl rfl) (hbyte ▸ hi) rfl rfl rfl (congrArg (· + 1) hkept.rep)
      (by rwa [← hkept.rep, ← hkept.repeatsM1])
  | startEdge h | linkTimeout h | windowEnd h => simp [h] at hst

/-- RECEIVE_BYTE in its byte ends after the byte or in a failure, unless a reset ends it. -/
theorem runComposite_inByte (s : State) (hs : s.cfg.structural = true)
    (hst : s.st = .transmitByte ∨ s.st = .receiveByte) :
    ((runComposite (inByte s.byteIdx) s).st ≠ .unconfigured → ReceivePhase s (runComposite (inByte s.byteIdx) s))
      ∧ inByte s.byteIdx (runComposite (inByte s.byteIdx) s) = false :=
  runComposite_moves (busy_of_inByte _) (fun _ _ _ _ hK hpu hv hg => hK.move hpu hv hg) s hs
    (.exchange ((inByte_iff _ s).mpr ⟨hst, rfl⟩) (.refl s) rfl ⟨rfl, rfl, rfl⟩)

/-! ### That it completes -/

/-- RECEIVE_BYTE of byte i is in the byte on schedule, with no reset before its end, or after it without a failure. -/
structure ReceiveCompletes (i : Index) (u : State) : Prop where
  notFailed : u.st ≠ .desyncFailure
  notReset : u.st ≠ .unconfigured
  onSchedule : inByte i u = true → u.cfg.Scheduled ∧ OnSchedule u ∧ NoResetFor (u.cfg.endTarget i - u.elapsed) u

/-- On a schedule of R10 the last drive of a byte comes before its end, and so does every sample. -/
theorem slot_lt_endTarget (p : Config) (hsch : p.Scheduled) (i j : Index) :
    p.driveTarget i j < p.endTarget i ∧ p.sampleTarget i j < p.endTarget i := by
  obtain ⟨⟨hlo, hhi⟩, -⟩ := hsch
  have := driveTarget_le_last p i j
  rw [driveTarget_last] at this
  unfold Config.sampleTarget Config.endTarget
  omega

theorem ReceiveCompletes.next {i : Index} {u : State} (hu : u.cfg.structural = true) (h : ReceiveCompletes i u)
    (hin : inByte i u = true) : ReceiveCompletes i (cycle u) := by
  obtain ⟨hsch, hon, hr⟩ := h.onSchedule hin
  obtain ⟨hst, hbyte⟩ := (inByte_iff i u).mp hin
  obtain ⟨hdrive, hsample⟩ := slot_lt_endTarget u.cfg hsch i u.bitIdx
  obtain ⟨v, hv, e⟩ := cycle_move u hr.rst (busy_of_inByte i u hin)
  have hon' := onSchedule_endCycle (g := gatedWrite u || u.ign) hu hsch hv
  have hnext : u.elapsed < u.cfg.endTarget i → v.tRef = u.tRef →
      NoResetFor _ (endCycle u { v with ign := gatedWrite u || u.ign }) := fun hlt href =>
    hr.beforeTarget (g := gatedWrite u || u.ign) hv hlt (endTarget_lt_modulus _ hu i) href
  rw [e]
  cases hv with
  | wait _ _ hdue =>
    refine ⟨h.notFailed, h.notReset, fun _ => ⟨hsch, hon', hnext ?_ rfl⟩⟩
    rcases hst with hst | hst
    · have := hdue _ (waitTarget_transmitByte u hst)
      rw [hbyte] at this
      omega
    · cases htail : u.tail
      · have := hdue _ (waitTarget_sample u hst htail)
        rw [hbyte] at this
        omega
      · exact hbyte ▸ hdue _ (waitTarget_byteEnd u hst htail)
  | drive _ he | sample _ _ he | lastSample hst _ he =>
    rw [hbyte] at he
    exact ⟨by simp_all, by simp_all, fun _ => ⟨hsch, hon', hnext (by omega) rfl⟩⟩
  | byteEnd => exact ⟨nofun, nofun, fun h => absurd h (Bool.eq_false_iff.mp (inByte_next (congrArg (· + 1) hbyte)))⟩
  | success | nextRepeat => exact ⟨nofun, nofun, fun h => absurd h (by simp [inByte])⟩
  | late _ _ d hd hlate => exact absurd ((onSchedule_iff u).mp hon d hd) (by omega)
  | startEdge h | linkTimeout h | windowEnd h => simp [h] at hst

/-- Settles O48: the composite runs the moves in the byte to its end, and on schedule none of them fails. -/
theorem receiveByteEnds : Obligations.ReceiveByteEnds := by
  intro s hs hst
  refine ⟨runComposite (inByte s.byteIdx) s, elaborated_of_structural s _ hs, fun hreset => ?_,
    fun hsch hon hrst hlen => ?_⟩
  · obtain ⟨hend, hout⟩ := runComposite_inByte s hs hst
    cases hend hreset with
    | exchange hin => simp [hin] at hout
    | failed hkept h hbyte href hidle htail hdone hok hcause =>
      exact ⟨hkept.repeatsM1, hkept.oeQ, hidle, htail, hkept.ign,
        .inr ⟨h, hkept.frame, hbyte, href, hkept.rep, hkept.warm, hdone, hok, hcause⟩⟩
    | nextByte hb hi h hbyte hbit href hrep hwarm hres =>
      refine ⟨hb.repeatsM1, hb.oeQ, hb.outQ, hb.tail, hb.ign, .inl ⟨by simp [h], hb.stored, hb.others, ?_⟩⟩
      rw [if_neg hi]
      exact ⟨h, hbyte, hbit, href, hrep, hwarm, hres.done, hres.ok, hres.cause⟩
    | success hb hi h hbyte hbit =>
      refine ⟨hb.repeatsM1, hb.oeQ, hb.outQ, hb.tail, hb.ign, .inl ⟨by simp [h], hb.stored, hb.others, ?_⟩⟩
      rw [if_pos hi]
      exact ⟨hbyte, hbit, .inl h⟩
    | nextRepeat hb hi h hbyte hbit =>
      refine ⟨hb.repeatsM1, hb.oeQ, hb.outQ, hb.tail, hb.ign, .inl ⟨by simp [h], hb.stored, hb.others, ?_⟩⟩
      rw [if_pos hi]
      exact ⟨hbyte, hbit, .inr h⟩
  · have hbegin : ReceiveCompletes s.byteIdx s :=
      ⟨by rcases hst with h | h <;> simp [h], by rcases hst with h | h <;> simp [h], fun _ => ⟨hsch, hon, hlen, hrst⟩⟩
    obtain ⟨hend, -⟩ := runComposite_keeps (busy_of_inByte s.byteIdx) (fun _ hu hI hpu => hI.next hu hpu) s hs hbegin
    exact ⟨hend.notFailed, hend.notReset⟩

end Sys2Proof.Laws
end

section
/-! PROOFS. LANC_TRANSMIT_RECEIVE (42_transceiver.md R194): the whole call, its end, and the sequence of composites it
is. -/

namespace Sys2Proof.Laws

open Sys2Proof.Machine Sys2Proof.Safety

/-! ### The cycle that presents LOOP -/

/-- The host part of the cycle that presents LOOP is the effect of LOOP. -/
theorem hostPart_presentLoop (s : State) : hostPart (presentLoop s) = loopEffect (presentLoop s) := by
  change (if (true && true) = true then hostWrite 0x0 0x02 (presentLoop s) else presentLoop s) = _
  simp [hostWrite]

/-- A cycle with rst = 0 in which an accepting block is given a LOOP starts the call. -/
theorem cycle_presentLoop_accepted (s : State) (hr : s.input.rst = false) (hst : s.st = .idle ∨ s.st = .success) :
    cycle (presentLoop s) = endCycle (presentLoop s) (loopAccepted (presentLoop s)) := by
  have hb : (presentLoop s).busy = false := by
    change s.busy = false
    rcases hst with h | h <;> simp [State.busy, FsmState.isBusy, h]
  have hst' : (presentLoop s).st = .idle ∨ (presentLoop s).st = .success := hst
  rw [cycle_of_ready (presentLoop s) hr hb, hostPart_presentLoop, loopEffect, gated_ready _ _ hb, if_pos hst']

/-- A cycle with rst = 0 in which a block that is not ready is given a LOOP raises NotReady. -/
theorem cycle_presentLoop_refused (s : State) (hr : s.input.rst = false)
    (hst : s.st = .unconfigured ∨ s.st = .desyncFailure) :
    cycle (presentLoop s) = endCycle (presentLoop s) (raiseNotReady (presentLoop s)) := by
  rw [cycle_of_ready (presentLoop s) hr (busy_of_notReady _ hst), hostPart_presentLoop,
    loopEffect_notReady (presentLoop s) hst]

/-! ### The end of a call -/

/-- The call has ended, in success or in failure, and released the line. -/
structure CallEnded (s u : State) : Prop where
  done : u.done = true
  outQ : u.outQ = s.cfg.outIdle
  result : (u.st = .success ∧ u.ok = true) ∨ (u.st = .desyncFailure ∧ u.ok = false)

/-- What holds of the states of a call that began in `s`. -/
structure CallState (s u : State) : Prop where
  cfg : u.cfg = s.cfg
  oeQ : u.oeQ = s.oeQ
  repeatsM1 : u.repeatsM1 = s.repeatsM1
  phase : u.busy = true ∨ CallEnded s u

/-- Each move of a call goes on with it or ends it. -/
theorem CallState.move {s u v : State} {g : Bool} (h : CallState s u) (hv : FsmMove u v) :
    CallState s (endCycle u { v with ign := g }) := by
  obtain ⟨hcfg, hoe, hrep, -⟩ := h
  refine ⟨hv.cfg_eq.trans hcfg, hv.oeQ_eq.trans hoe, hv.repeatsM1_eq.trans hrep, ?_⟩
  have hidle : u.cfg.outIdle = s.cfg.outIdle := congrArg _ hcfg
  cases hv with
  | wait hb => exact .inl hb
  | startEdge | windowEnd | drive | sample | byteEnd | nextRepeat => exact .inl rfl
  | lastSample hst => exact .inl (by simp [State.busy, FsmState.isBusy, hst])
  | linkTimeout | late => exact .inr ⟨rfl, hidle, .inr ⟨rfl, rfl⟩⟩
  | success => exact .inr ⟨rfl, hidle, .inl ⟨rfl, rfl⟩⟩

/-- Settles O50: an accepted LOOP runs the moves of the call to its end, a refused one raises NotReady, and one that
falls into a call sets IGN. -/
theorem everyCallEnds : Obligations.EveryCallEnds := by
  intro s hs hr
  refine ⟨callEffect s, elaborated_of_structural s _ hs, fun hst hreset => ?_, fun hst => ?_, fun hb => ?_⟩
  · have hb : s.busy = false := by rcases hst with h | h <;> simp [State.busy, FsmState.isBusy, h]
    have hcall : callEffect s = runComposite State.busy (cycle (presentLoop s)) := by simp [callEffect, hb]
    rw [hcall, cycle_presentLoop_accepted s hr hst] at hreset ⊢
    obtain ⟨hend, hout⟩ := runComposite_moves (fun _ h => h) (fun _ _ _ _ hK _ hv _ => CallState.move hK hv)
      (endCycle (presentLoop s) (loopAccepted (presentLoop s))) hs (K := CallState s) ⟨rfl, rfl, rfl, .inl rfl⟩
    obtain ⟨-, hoe, hrep, hphase⟩ := hend hreset
    rcases hphase with h | ⟨hdone, hidle, hresult⟩
    · simp [h] at hout
    · exact ⟨hdone, hidle, hoe, hrep, hresult⟩
  · have hb := busy_of_notReady s hst
    have hcall : callEffect s = endCycle (presentLoop s) (raiseNotReady (presentLoop s)) := by
      have hb' : (endCycle (presentLoop s) (raiseNotReady (presentLoop s))).busy = false := hb
      rw [callEffect, if_neg (by simp [hb]), cycle_presentLoop_refused s hr hst, runComposite,
        runWhile_of_not _ _ _ hb']
    rw [hcall]
    simp [presentLoop]
  · have hcall : callEffect s = cycle (presentLoop s) := if_pos hb
    obtain ⟨v, hv, e⟩ := cycle_move (presentLoop s) hr hb
    have hgate : gatedWrite (presentLoop s) = true := rfl
    rw [hcall, e]
    exact ⟨by simp [hgate], hv.oeQ_eq, hv.repeatsM1_eq⟩

/-! ### The call as a sequence -/

/-- The state in which the call in progress ends; the state itself where there is none. -/
def callEnd (s : State) : State := runComposite State.busy s

theorem callEnd_ready (s : State) (hb : s.busy = false) : callEnd s = s := runWhile_of_not _ _ s hb

/-- Any number of cycles that the call cannot reach gives the same end. -/
theorem runWhile_busy_congr (m n : Nat) (s : State) (hs : s.cfg.structural = true)
    (hm : s.busy = true → cyclesLeft s < m) (hn : s.busy = true → cyclesLeft s < n) :
    runWhile State.busy m s = runWhile State.busy n s := by
  induction m generalizing n s with
  | zero =>
    cases hb : s.busy with
    | false => rw [runWhile_of_not _ _ s hb, runWhile_of_not _ _ s hb]
    | true => exact absurd (hm hb) (Nat.not_lt_zero _)
  | succ m ih =>
    cases hb : s.busy with
    | false => rw [runWhile_of_not _ _ s hb, runWhile_of_not _ _ s hb]
    | true =>
      obtain ⟨n, rfl⟩ : ∃ k, n = k + 1 := ⟨n - 1, by have := hn hb; omega⟩
      have hm := hm hb
      have hn := hn hb
      rw [runWhile_succ _ m s hb, runWhile_succ _ n s hb]
      refine ih n (cycle s) (by rwa [cycle_cfg]) (fun hb' => ?_) fun hb' => ?_ <;>
        have := cyclesLeft_cycle s hs hb hb' <;> omega

/-- A cycle of the call leads to the same end. -/
theorem callEnd_cycle (s : State) (hs : s.cfg.structural = true) (hb : s.busy = true) :
    callEnd (cycle s) = callEnd s := by
  have hs' : (cycle s).cfg.structural = true := by rwa [cycle_cfg]
  calc callEnd (cycle s) = runWhile State.busy (cycleBound s.cfg) (cycle s) := by rw [callEnd, runComposite, cycle_cfg]
    _ = runWhile State.busy (cycleBound s.cfg + 1) s := (runWhile_succ _ _ s hb).symm
    _ = callEnd s := runWhile_busy_congr _ _ s hs (fun _ => Nat.lt_succ_of_lt (cyclesLeft_lt_bound s))
        fun _ => cyclesLeft_lt_bound s

/-- A composite of the call keeps the parameters and leads to the same end. -/
theorem callEnd_runComposite {p : State → Bool} (hp : ∀ u, p u = true → u.busy = true) (s : State)
    (hs : s.cfg.structural = true) :
    (runComposite p s).cfg.structural = true ∧ callEnd (runComposite p s) = callEnd s :=
  (runComposite_keeps hp (I := fun u => u.cfg.structural = true ∧ callEnd u = callEnd s)
    (fun u hu hI hpu => ⟨by rwa [cycle_cfg], (callEnd_cycle u hu (hp u hpu)).trans hI.2⟩) s hs ⟨hs, rfl⟩).1

/-- After the call RECEIVE_BYTE changes nothing. -/
theorem exec_receiveByte_ready (s : State) (hs : s.cfg.structural = true) (hb : s.busy = false) :
    exec .receiveByte s = .next s := by
  have hin : inByte s.byteIdx s = false := Bool.eq_false_iff.mpr fun h => by simp [busy_of_inByte _ s h] at hb
  exact (elaborated_of_structural s _ hs).trans (congrArg _ (runWhile_of_not _ _ s hin))

/-- After the call the exchange of bytes changes nothing. -/
theorem exchangeBytes_ready (n : Nat) (s : State) (hs : s.cfg.structural = true) (hb : s.busy = false) :
    exchangeBytes n s = .next s := by
  induction n with
  | zero => rfl
  | succ n ih => rw [exchangeBytes, exec_receiveByte_ready s hs hb, andThen_next, ih]

/-- After the call the sequence of its repeats changes nothing. -/
theorem callSequence_ready (n : Nat) (s : State) (hs : s.cfg.structural = true) (hb : s.busy = false) :
    callSequence n s = .next s := by
  have hin : inSync s = false := Bool.eq_false_iff.mpr fun h => by simp [busy_of_inSync s h] at hb
  have hsync : exec .syncTransmission s = .next s :=
    (elaborated_of_structural s _ hs).trans (congrArg _ (runWhile_of_not _ _ s hin))
  induction n with
  | zero => rfl
  | succ n ih => rw [callSequence, hsync, andThen_next, exchangeBytes_ready 8 s hs hb, andThen_next, ih]

/-- The frame that was exchanged from `s` on has ended in `t`: with the call, or in the wait of its next repeat. -/
def FrameEnded (s t : State) : Prop :=
  t.busy = false ∨ (t.st = .awaitStart ∧ t.repeatsM1 = s.repeatsM1 ∧ t.rep = s.rep + 1 ∧ s.rep ≠ s.repeatsM1)

/-- The last n bytes of a frame end it and lead to the same end of the call. -/
theorem exchangeBytes_to_frameEnd (n : Nat) (s : State) (hs : s.cfg.structural = true) (hst : s.st = .transmitByte)
    (hn : s.byteIdx.toNat + n = 8) :
    ∃ t, exchangeBytes n s = .next t ∧ t.cfg.structural = true ∧ callEnd t = callEnd s ∧ FrameEnded s t := by
  induction n generalizing s with
  | zero => exact absurd hn (by have := s.byteIdx.isLt; omega)
  | succ n ih =>
    have hexec : exec .receiveByte s = .next (runComposite (inByte s.byteIdx) s) := elaborated_of_structural s _ hs
    obtain ⟨hend, hout⟩ := runComposite_inByte s hs (.inl hst)
    obtain ⟨hu, hsame⟩ := callEnd_runComposite (busy_of_inByte s.byteIdx) s hs
    rw [exchangeBytes, hexec, andThen_next]
    generalize runComposite (inByte s.byteIdx) s = u at hend hout hu hsame
    have hready : u.busy = false → ∃ t, exchangeBytes n u = .next t ∧ t.cfg.structural = true
        ∧ callEnd t = callEnd s ∧ FrameEnded s t := fun hb =>
      ⟨u, exchangeBytes_ready n u hu hb, hu, hsame, .inl hb⟩
    by_cases hreset : u.st = .unconfigured
    · exact hready (by simp [State.busy, FsmState.isBusy, hreset])
    cases hend hreset with
    | exchange hin => simp [hin] at hout
    | nextByte hb hi h hbyte _ _ hrep =>
      obtain ⟨hsucc, -⟩ := index_succ s.byteIdx hi
      obtain ⟨t, hx, ht, hsame', htend⟩ := ih u hu h (by rw [hbyte, hsucc]; omega)
      rw [FrameEnded, hb.repeatsM1, hrep] at htend
      exact ⟨t, hx, ht, hsame'.trans hsame, htend⟩
    | success _ _ h => exact hready (by simp [State.busy, FsmState.isBusy, h])
    | failed _ h => exact hready (by simp [State.busy, FsmState.isBusy, h])
    | nextRepeat hb hi h _ _ hrep hmore =>
      obtain rfl : n = 0 := by
        rw [hi, show (7 : Index).toNat = 7 from rfl] at hn
        omega
      exact ⟨u, rfl, hu, hsame, .inr ⟨h, hb.repeatsM1, hrep, hmore⟩⟩

/-- From the wait for a start edge, the sequence of at least the repeats that are left leads to the call's end. -/
theorem callSequence_eq_callEnd (n : Nat) (s : State) (hs : s.cfg.structural = true) (hst : s.st = .awaitStart)
    (hn : (s.repeatsM1 - s.rep).toNat < n) : callSequence n s = .next (callEnd s) := by
  induction n generalizing s with
  | zero => exact absurd hn (Nat.not_lt_zero _)
  | succ n ih =>
    have hexec : exec .syncTransmission s = .next (runComposite inSync s) := elaborated_of_structural s _ hs
    obtain ⟨hend, hout⟩ := runComposite_inSync s hs ((inSync_iff s).mpr (.inl hst))
    obtain ⟨hu, hsame⟩ := callEnd_runComposite busy_of_inSync s hs
    rw [callSequence, hexec, andThen_next, ← hsame]
    generalize runComposite inSync s = u at hend hout hu
    have hready : u.busy = false → andThen (exchangeBytes 8 u) (callSequence n) = .next (callEnd u) := fun hb => by
      rw [exchangeBytes_ready 8 u hu hb, andThen_next, callSequence_ready n u hu hb, callEnd_ready u hb]
    by_cases hreset : u.st = .unconfigured
    · exact hready (by simp [State.busy, FsmState.isBusy, hreset])
    obtain ⟨hkept, -, hphase⟩ := hend hreset
    cases hphase with
    | waits h => simp [h] at hout
    | failed h => exact hready (by simp [State.busy, FsmState.isBusy, h])
    | origin h hbyte =>
      obtain ⟨t, hx, ht, hsame', htend⟩ := exchangeBytes_to_frameEnd 8 u hu h (by rw [hbyte]; rfl)
      rw [hx, andThen_next, ← hsame']
      rcases htend with hb | ⟨htst, hm, hrep, hmore⟩
      · rw [callSequence_ready n t ht hb, callEnd_ready t hb]
      · have := repeatsLeft_succ u.rep u.repeatsM1 hmore
        refine ih t ht htst ?_
        rw [hm, hrep]
        rw [← hkept.rep, ← hkept.repeatsM1] at hn
        omega

/-- Settles O49: the accepted LOOP leads to the wait of the first repeat, and the sequence to the call's end. -/
theorem callIsItsSequence : Obligations.CallIsItsSequence := by
  intro s hs hr hst
  have hb : s.busy = false := by rcases hst with h | h <;> simp [State.busy, FsmState.isBusy, h]
  have hcall : callEffect s = callEnd (cycle (presentLoop s)) := by simp [callEffect, callEnd, hb]
  refine ⟨callEffect s, elaborated_of_structural s _ hs, ?_⟩
  rw [stepIsSimultaneousCycle (presentLoop s) hs, andThen_next, hcall, cycle_presentLoop_accepted s hr hst]
  refine callSequence_eq_callEnd _ _ hs rfl ?_
  change (s.repeatsM1 - 0).toNat < s.repeatsM1.toNat + 1
  simp

end Sys2Proof.Laws
end
